-- ==== Sys2Proof/Word.lean ====
section
/-! DEFINITION. The two widths of the machine (R7, R9): every register, memory cell and data access is
a byte, every bus address, video address and program counter a 16-bit word.  Arithmetic on both wraps,
as the rules' "mod 256" and "mod 65536" say. -/

namespace Sys2Proof

/-- A byte: 8 bits, bit 0 least significant (R9). -/
abbrev Byte := BitVec 8

/-- A 16-bit quantity: `PC`, a bus address, `vaddr` (R7, R9). -/
abbrev Word := BitVec 16

end Sys2Proof
end

