-- ==== Sys2Proof/Config.lean ====
section
/-! DEFINITION. What is fixed for the machine and is not state: the named parameters of R8 at the values
the spec decides, the two vectors (R290), the sizes (R7) and the byte an unlisted memory cell reads as. -/

namespace Sys2Proof.Config

/-- `BRK_RET` (R8): BRK pushes the address of its opcode plus this.  UNVERIFIED (log entry 7): the spec
decides 2 and names the alternative 1 (D6). -/
def brkRet : Word := 2

/-- `VRAM_TOP` (R8): the last video address routed to internal video memory.  UNVERIFIED (log entry 7):
the spec decides 0x2FFF and names the alternative 0x3EFF (D14). -/
def vramTop : Nat := 0x2FFF

/-- The reset vector's bus address (R290). -/
def resetVector : Word := 0xFFFC

/-- The break vector's bus address (R243, R290). -/
def breakVector : Word := 0xFFFE

/-- The 105 opcode bytes that have no meaning, as R108 lists them. -/
def unimplemented : List Byte :=
  [0x02, 0x03, 0x04, 0x07, 0x0B, 0x0C, 0x0F, 0x12, 0x13, 0x14, 0x17, 0x1A, 0x1B, 0x1C, 0x1F] ++
  [0x22, 0x23, 0x27, 0x2B, 0x2F, 0x32, 0x33, 0x34, 0x37, 0x3A, 0x3B, 0x3C, 0x3F, 0x42, 0x43] ++
  [0x44, 0x47, 0x4B, 0x4F, 0x52, 0x53, 0x54, 0x57, 0x5A, 0x5B, 0x5C, 0x5F, 0x62, 0x63, 0x64] ++
  [0x67, 0x6B, 0x6F, 0x72, 0x73, 0x74, 0x77, 0x7A, 0x7B, 0x7C, 0x7F, 0x80, 0x82, 0x83, 0x87] ++
  [0x89, 0x8B, 0x8F, 0x92, 0x93, 0x97, 0x9B, 0x9C, 0x9E, 0x9F, 0xA3, 0xA7, 0xAB, 0xAF, 0xB2] ++
  [0xB3, 0xB7, 0xBB, 0xBF, 0xC2, 0xC3, 0xC7, 0xCB, 0xCF, 0xD2, 0xD3, 0xD4, 0xD7, 0xDA, 0xDB] ++
  [0xDC, 0xDF, 0xE2, 0xE3, 0xE7, 0xEB, 0xEF, 0xF2, 0xF3, 0xF4, 0xF7, 0xFA, 0xFB, 0xFC, 0xFF]

/-- `IMPLEMENTED` (R8, R104): the opcode bytes that do not fault, every byte R108 does not list.
UNVERIFIED (log entry 7): any subset would be admissible (D1). -/
def implemented (op : Byte) : Bool := !(unimplemented.contains op)

/-- What a memory cell reads as when the memory's list does not name it.  DESIGN CHOICE (log entry 2):
`INIT_MEM` is open (R8, D18).  Every memory contents can still be written as a list, so the choice
shows only in `State.reset`. -/
def unlisted : Byte := 0x00

/-- Size of `stack` (R27). -/
def stackSize : Nat := 256
/-- Size of `wram` (R28). -/
def wramSize : Nat := 2048
/-- Size of `cram` (R29). -/
def cramSize : Nat := 8192
/-- Size of `oam` (R36). -/
def oamSize : Nat := 256
/-- Size of `vram` (R40). -/
def vramSize : Nat := 2048
/-- Size of `pal` (R41). -/
def palSize : Nat := 32

/-- The magic sequence of a cartridge file (R292, D23). -/
def magic : List Byte := [0x4E, 0x45, 0x53, 0x1A]
/-- Length of a cartridge file's header (R292, D23). -/
def headerLength : Nat := 16
/-- Length of a trainer block (R292). -/
def trainerLength : Nat := 512
/-- The direct-mapped mapper number, the only one accepted (R292, D23). -/
def directMapper : Byte := 0

end Sys2Proof.Config
end

