-- ==== Sys2Proof/Syntax.lean ====
section
/-! DEFINITION. The instructions: one constructor for each of the 151 rows of the opcode map (R104), with
the operand field the row's format carries (R101, R102): `v` imm8, `z` zp8, `addr` addr16, `ptr` ptr16,
`rel` rel8.  A mnemonic has only the formats R104 lists for it (R136), so no other pair can be written. -/

namespace Sys2Proof

/-- An instruction: mnemonic, format and operand field (R100, R101, R104). -/
inductive Instr where
  /-- LDA immediate, 0xA9 (R150). -/
  | ldaImm (v : Byte)
  /-- LDA zero-page, 0xA5 (R150). -/
  | ldaZp (z : Byte)
  /-- LDA zero-page,X, 0xB5 (R150). -/
  | ldaZpx (z : Byte)
  /-- LDA absolute, 0xAD (R150). -/
  | ldaAbs (addr : Word)
  /-- LDA absolute,X, 0xBD (R150). -/
  | ldaAbsx (addr : Word)
  /-- LDA absolute,Y, 0xB9 (R150). -/
  | ldaAbsy (addr : Word)
  /-- LDA indirect,X, 0xA1 (R150). -/
  | ldaIndx (z : Byte)
  /-- LDA indirect,Y, 0xB1 (R150). -/
  | ldaIndy (z : Byte)
  /-- LDX immediate, 0xA2 (R151). -/
  | ldxImm (v : Byte)
  /-- LDX zero-page, 0xA6 (R151). -/
  | ldxZp (z : Byte)
  /-- LDX zero-page,Y, 0xB6 (R151). -/
  | ldxZpy (z : Byte)
  /-- LDX absolute, 0xAE (R151). -/
  | ldxAbs (addr : Word)
  /-- LDX absolute,Y, 0xBE (R151). -/
  | ldxAbsy (addr : Word)
  /-- LDY immediate, 0xA0 (R152). -/
  | ldyImm (v : Byte)
  /-- LDY zero-page, 0xA4 (R152). -/
  | ldyZp (z : Byte)
  /-- LDY zero-page,X, 0xB4 (R152). -/
  | ldyZpx (z : Byte)
  /-- LDY absolute, 0xAC (R152). -/
  | ldyAbs (addr : Word)
  /-- LDY absolute,X, 0xBC (R152). -/
  | ldyAbsx (addr : Word)
  /-- STA zero-page, 0x85 (R153). -/
  | staZp (z : Byte)
  /-- STA zero-page,X, 0x95 (R153). -/
  | staZpx (z : Byte)
  /-- STA absolute, 0x8D (R153). -/
  | staAbs (addr : Word)
  /-- STA absolute,X, 0x9D (R153). -/
  | staAbsx (addr : Word)
  /-- STA absolute,Y, 0x99 (R153). -/
  | staAbsy (addr : Word)
  /-- STA indirect,X, 0x81 (R153). -/
  | staIndx (z : Byte)
  /-- STA indirect,Y, 0x91 (R153). -/
  | staIndy (z : Byte)
  /-- STX zero-page, 0x86 (R154). -/
  | stxZp (z : Byte)
  /-- STX zero-page,Y, 0x96 (R154). -/
  | stxZpy (z : Byte)
  /-- STX absolute, 0x8E (R154). -/
  | stxAbs (addr : Word)
  /-- STY zero-page, 0x84 (R155). -/
  | styZp (z : Byte)
  /-- STY zero-page,X, 0x94 (R155). -/
  | styZpx (z : Byte)
  /-- STY absolute, 0x8C (R155). -/
  | styAbs (addr : Word)
  /-- TAX implied, 0xAA (R156). -/
  | tax
  /-- TAY implied, 0xA8 (R157). -/
  | tay
  /-- TXA implied, 0x8A (R158). -/
  | txa
  /-- TYA implied, 0x98 (R159). -/
  | tya
  /-- TSX implied, 0xBA (R160). -/
  | tsx
  /-- TXS implied, 0x9A (R161). -/
  | txs
  /-- ADC immediate, 0x69 (R171). -/
  | adcImm (v : Byte)
  /-- ADC zero-page, 0x65 (R171). -/
  | adcZp (z : Byte)
  /-- ADC zero-page,X, 0x75 (R171). -/
  | adcZpx (z : Byte)
  /-- ADC absolute, 0x6D (R171). -/
  | adcAbs (addr : Word)
  /-- ADC absolute,X, 0x7D (R171). -/
  | adcAbsx (addr : Word)
  /-- ADC absolute,Y, 0x79 (R171). -/
  | adcAbsy (addr : Word)
  /-- ADC indirect,X, 0x61 (R171). -/
  | adcIndx (z : Byte)
  /-- ADC indirect,Y, 0x71 (R171). -/
  | adcIndy (z : Byte)
  /-- SBC immediate, 0xE9 (R172). -/
  | sbcImm (v : Byte)
  /-- SBC zero-page, 0xE5 (R172). -/
  | sbcZp (z : Byte)
  /-- SBC zero-page,X, 0xF5 (R172). -/
  | sbcZpx (z : Byte)
  /-- SBC absolute, 0xED (R172). -/
  | sbcAbs (addr : Word)
  /-- SBC absolute,X, 0xFD (R172). -/
  | sbcAbsx (addr : Word)
  /-- SBC absolute,Y, 0xF9 (R172). -/
  | sbcAbsy (addr : Word)
  /-- SBC indirect,X, 0xE1 (R172). -/
  | sbcIndx (z : Byte)
  /-- SBC indirect,Y, 0xF1 (R172). -/
  | sbcIndy (z : Byte)
  /-- AND immediate, 0x29 (R173). -/
  | andImm (v : Byte)
  /-- AND zero-page, 0x25 (R173). -/
  | andZp (z : Byte)
  /-- AND zero-page,X, 0x35 (R173). -/
  | andZpx (z : Byte)
  /-- AND absolute, 0x2D (R173). -/
  | andAbs (addr : Word)
  /-- AND absolute,X, 0x3D (R173). -/
  | andAbsx (addr : Word)
  /-- AND absolute,Y, 0x39 (R173). -/
  | andAbsy (addr : Word)
  /-- AND indirect,X, 0x21 (R173). -/
  | andIndx (z : Byte)
  /-- AND indirect,Y, 0x31 (R173). -/
  | andIndy (z : Byte)
  /-- ORA immediate, 0x09 (R174). -/
  | oraImm (v : Byte)
  /-- ORA zero-page, 0x05 (R174). -/
  | oraZp (z : Byte)
  /-- ORA zero-page,X, 0x15 (R174). -/
  | oraZpx (z : Byte)
  /-- ORA absolute, 0x0D (R174). -/
  | oraAbs (addr : Word)
  /-- ORA absolute,X, 0x1D (R174). -/
  | oraAbsx (addr : Word)
  /-- ORA absolute,Y, 0x19 (R174). -/
  | oraAbsy (addr : Word)
  /-- ORA indirect,X, 0x01 (R174). -/
  | oraIndx (z : Byte)
  /-- ORA indirect,Y, 0x11 (R174). -/
  | oraIndy (z : Byte)
  /-- EOR immediate, 0x49 (R175). -/
  | eorImm (v : Byte)
  /-- EOR zero-page, 0x45 (R175). -/
  | eorZp (z : Byte)
  /-- EOR zero-page,X, 0x55 (R175). -/
  | eorZpx (z : Byte)
  /-- EOR absolute, 0x4D (R175). -/
  | eorAbs (addr : Word)
  /-- EOR absolute,X, 0x5D (R175). -/
  | eorAbsx (addr : Word)
  /-- EOR absolute,Y, 0x59 (R175). -/
  | eorAbsy (addr : Word)
  /-- EOR indirect,X, 0x41 (R175). -/
  | eorIndx (z : Byte)
  /-- EOR indirect,Y, 0x51 (R175). -/
  | eorIndy (z : Byte)
  /-- BIT zero-page, 0x24 (R176). -/
  | bitZp (z : Byte)
  /-- BIT absolute, 0x2C (R176). -/
  | bitAbs (addr : Word)
  /-- CMP immediate, 0xC9 (R177). -/
  | cmpImm (v : Byte)
  /-- CMP zero-page, 0xC5 (R177). -/
  | cmpZp (z : Byte)
  /-- CMP zero-page,X, 0xD5 (R177). -/
  | cmpZpx (z : Byte)
  /-- CMP absolute, 0xCD (R177). -/
  | cmpAbs (addr : Word)
  /-- CMP absolute,X, 0xDD (R177). -/
  | cmpAbsx (addr : Word)
  /-- CMP absolute,Y, 0xD9 (R177). -/
  | cmpAbsy (addr : Word)
  /-- CMP indirect,X, 0xC1 (R177). -/
  | cmpIndx (z : Byte)
  /-- CMP indirect,Y, 0xD1 (R177). -/
  | cmpIndy (z : Byte)
  /-- CPX immediate, 0xE0 (R178). -/
  | cpxImm (v : Byte)
  /-- CPX zero-page, 0xE4 (R178). -/
  | cpxZp (z : Byte)
  /-- CPX absolute, 0xEC (R178). -/
  | cpxAbs (addr : Word)
  /-- CPY immediate, 0xC0 (R179). -/
  | cpyImm (v : Byte)
  /-- CPY zero-page, 0xC4 (R179). -/
  | cpyZp (z : Byte)
  /-- CPY absolute, 0xCC (R179). -/
  | cpyAbs (addr : Word)
  /-- INC zero-page, 0xE6 (R180). -/
  | incZp (z : Byte)
  /-- INC zero-page,X, 0xF6 (R180). -/
  | incZpx (z : Byte)
  /-- INC absolute, 0xEE (R180). -/
  | incAbs (addr : Word)
  /-- INC absolute,X, 0xFE (R180). -/
  | incAbsx (addr : Word)
  /-- DEC zero-page, 0xC6 (R181). -/
  | decZp (z : Byte)
  /-- DEC zero-page,X, 0xD6 (R181). -/
  | decZpx (z : Byte)
  /-- DEC absolute, 0xCE (R181). -/
  | decAbs (addr : Word)
  /-- DEC absolute,X, 0xDE (R181). -/
  | decAbsx (addr : Word)
  /-- INX implied, 0xE8 (R182). -/
  | inx
  /-- INY implied, 0xC8 (R183). -/
  | iny
  /-- DEX implied, 0xCA (R184). -/
  | dex
  /-- DEY implied, 0x88 (R185). -/
  | dey
  /-- ASL accumulator, 0x0A (R201). -/
  | aslAcc
  /-- ASL zero-page, 0x06 (R201). -/
  | aslZp (z : Byte)
  /-- ASL zero-page,X, 0x16 (R201). -/
  | aslZpx (z : Byte)
  /-- ASL absolute, 0x0E (R201). -/
  | aslAbs (addr : Word)
  /-- ASL absolute,X, 0x1E (R201). -/
  | aslAbsx (addr : Word)
  /-- LSR accumulator, 0x4A (R202). -/
  | lsrAcc
  /-- LSR zero-page, 0x46 (R202). -/
  | lsrZp (z : Byte)
  /-- LSR zero-page,X, 0x56 (R202). -/
  | lsrZpx (z : Byte)
  /-- LSR absolute, 0x4E (R202). -/
  | lsrAbs (addr : Word)
  /-- LSR absolute,X, 0x5E (R202). -/
  | lsrAbsx (addr : Word)
  /-- ROL accumulator, 0x2A (R203). -/
  | rolAcc
  /-- ROL zero-page, 0x26 (R203). -/
  | rolZp (z : Byte)
  /-- ROL zero-page,X, 0x36 (R203). -/
  | rolZpx (z : Byte)
  /-- ROL absolute, 0x2E (R203). -/
  | rolAbs (addr : Word)
  /-- ROL absolute,X, 0x3E (R203). -/
  | rolAbsx (addr : Word)
  /-- ROR accumulator, 0x6A (R204). -/
  | rorAcc
  /-- ROR zero-page, 0x66 (R204). -/
  | rorZp (z : Byte)
  /-- ROR zero-page,X, 0x76 (R204). -/
  | rorZpx (z : Byte)
  /-- ROR absolute, 0x6E (R204). -/
  | rorAbs (addr : Word)
  /-- ROR absolute,X, 0x7E (R204). -/
  | rorAbsx (addr : Word)
  /-- JMP absolute, 0x4C (R210). -/
  | jmpAbs (addr : Word)
  /-- JMP indirect, 0x6C (R210). -/
  | jmpInd (ptr : Word)
  /-- JSR absolute, 0x20 (R211). -/
  | jsr (addr : Word)
  /-- RTS implied, 0x60 (R212). -/
  | rts
  /-- BCC relative, 0x90 (R214). -/
  | bcc (rel : Byte)
  /-- BCS relative, 0xB0 (R215). -/
  | bcs (rel : Byte)
  /-- BEQ relative, 0xF0 (R216). -/
  | beq (rel : Byte)
  /-- BNE relative, 0xD0 (R217). -/
  | bne (rel : Byte)
  /-- BMI relative, 0x30 (R218). -/
  | bmi (rel : Byte)
  /-- BPL relative, 0x10 (R219). -/
  | bpl (rel : Byte)
  /-- BVC relative, 0x50 (R220). -/
  | bvc (rel : Byte)
  /-- BVS relative, 0x70 (R221). -/
  | bvs (rel : Byte)
  /-- PHA implied, 0x48 (R230). -/
  | pha
  /-- PHP implied, 0x08 (R231). -/
  | php
  /-- PLA implied, 0x68 (R232). -/
  | pla
  /-- PLP implied, 0x28 (R233). -/
  | plp
  /-- CLC implied, 0x18 (R234). -/
  | clc
  /-- CLD implied, 0xD8 (R235). -/
  | cld
  /-- CLI implied, 0x58 (R236). -/
  | cli
  /-- CLV implied, 0xB8 (R237). -/
  | clv
  /-- SEC implied, 0x38 (R238). -/
  | sec
  /-- SED implied, 0xF8 (R239). -/
  | sed
  /-- SEI implied, 0x78 (R240). -/
  | sei
  /-- NOP implied, 0xEA (R241). -/
  | nop
  /-- BRK implied, 0x00 (R243). -/
  | brk
  /-- RTI implied, 0x40 (R244). -/
  | rti
  deriving DecidableEq, Repr

end Sys2Proof
end

