-- ==== Sys2Proof/Decode.lean ====
section
/-! DEFINITION. The thirteen formats and their lengths (R101), the opcode map as rows (R104), the decoder
(R103, R108), the opcode length table (R105) and the encoder.  The encoder and the rows are written
separately from R104, the length table from R105 and the unimplemented bytes from R108, so that their
agreement (R107) says something. -/

namespace Sys2Proof

/-- Bits 7:0 of a 16-bit value (R9). -/
def loByte (w : Word) : Byte := w.setWidth 8

/-- Bits 15:8 of a 16-bit value (R9). -/
def hiByte (w : Word) : Byte := (w >>> 8).setWidth 8

/-- `(hi << 8) | lo` (R9): the word whose low byte is `lo`. -/
def mkWord (hi lo : Byte) : Word := (hi.setWidth 16 <<< 8) ||| lo.setWidth 16

/-- `zext_16` of a byte (R9). -/
def zext (b : Byte) : Word := b.setWidth 16

/-- `sext_8` of a byte (R9, R102), as the 16-bit value that adds it modulo 65536. -/
def sext (b : Byte) : Word := b.signExtend 16

/-- The thirteen formats (R101). -/
inductive Format where
  | imp | acc | imm | zp | zpx | zpy | rel | indx | indy | abs | absx | absy | ind
  deriving DecidableEq, Repr

/-- The length in bytes of an instruction of a format (R101). -/
def Format.length : Format → Nat
  | .imp => 1 | .acc => 1
  | .imm => 2 | .zp => 2 | .zpx => 2 | .zpy => 2 | .rel => 2 | .indx => 2 | .indy => 2
  | .abs => 3 | .absx => 3 | .absy => 3 | .ind => 3

/-- How an instruction is made from the operand bytes after its opcode (R101, R102). -/
inductive Maker where
  /-- No operand byte. -/
  | none (i : Instr)
  /-- One operand byte. -/
  | byte (mk : Byte → Instr)
  /-- Two operand bytes, the low byte first (R64). -/
  | word (mk : Word → Instr)

/-- The number of operand bytes a maker takes. -/
def Maker.arity : Maker → Nat
  | .none _ => 0
  | .byte _ => 1
  | .word _ => 2

/-- The instruction made from the bytes after the opcode, and the bytes left over. -/
def Maker.build : Maker → List Byte → Option (Instr × List Byte)
  | .none i, rest => some (i, rest)
  | .byte mk, b :: rest => some (mk b, rest)
  | .word mk, lo :: hi :: rest => some (mk (mkWord hi lo), rest)
  | .byte _, [] => Option.none
  | .word _, [] => Option.none
  | .word _, [_] => Option.none

/-- One row of the opcode map (R104): opcode byte, format, instruction. -/
structure Row where
  op : Byte
  fmt : Format
  maker : Maker

/-- The rows of R150 to R161 in R104. -/
def loadStoreRows : List Row :=
  [⟨0xA9, .imm, .byte .ldaImm⟩,
   ⟨0xA5, .zp, .byte .ldaZp⟩,
   ⟨0xB5, .zpx, .byte .ldaZpx⟩,
   ⟨0xAD, .abs, .word .ldaAbs⟩,
   ⟨0xBD, .absx, .word .ldaAbsx⟩,
   ⟨0xB9, .absy, .word .ldaAbsy⟩,
   ⟨0xA1, .indx, .byte .ldaIndx⟩,
   ⟨0xB1, .indy, .byte .ldaIndy⟩,
   ⟨0xA2, .imm, .byte .ldxImm⟩,
   ⟨0xA6, .zp, .byte .ldxZp⟩,
   ⟨0xB6, .zpy, .byte .ldxZpy⟩,
   ⟨0xAE, .abs, .word .ldxAbs⟩] ++
  [⟨0xBE, .absy, .word .ldxAbsy⟩,
   ⟨0xA0, .imm, .byte .ldyImm⟩,
   ⟨0xA4, .zp, .byte .ldyZp⟩,
   ⟨0xB4, .zpx, .byte .ldyZpx⟩,
   ⟨0xAC, .abs, .word .ldyAbs⟩,
   ⟨0xBC, .absx, .word .ldyAbsx⟩,
   ⟨0x85, .zp, .byte .staZp⟩,
   ⟨0x95, .zpx, .byte .staZpx⟩,
   ⟨0x8D, .abs, .word .staAbs⟩,
   ⟨0x9D, .absx, .word .staAbsx⟩,
   ⟨0x99, .absy, .word .staAbsy⟩,
   ⟨0x81, .indx, .byte .staIndx⟩] ++
  [⟨0x91, .indy, .byte .staIndy⟩,
   ⟨0x86, .zp, .byte .stxZp⟩,
   ⟨0x96, .zpy, .byte .stxZpy⟩,
   ⟨0x8E, .abs, .word .stxAbs⟩,
   ⟨0x84, .zp, .byte .styZp⟩,
   ⟨0x94, .zpx, .byte .styZpx⟩,
   ⟨0x8C, .abs, .word .styAbs⟩,
   ⟨0xAA, .imp, .none .tax⟩,
   ⟨0xA8, .imp, .none .tay⟩,
   ⟨0x8A, .imp, .none .txa⟩,
   ⟨0x98, .imp, .none .tya⟩,
   ⟨0xBA, .imp, .none .tsx⟩] ++
  [⟨0x9A, .imp, .none .txs⟩]

/-- The rows of R171 to R175 in R104. -/
def arithRows : List Row :=
  [⟨0x69, .imm, .byte .adcImm⟩,
   ⟨0x65, .zp, .byte .adcZp⟩,
   ⟨0x75, .zpx, .byte .adcZpx⟩,
   ⟨0x6D, .abs, .word .adcAbs⟩,
   ⟨0x7D, .absx, .word .adcAbsx⟩,
   ⟨0x79, .absy, .word .adcAbsy⟩,
   ⟨0x61, .indx, .byte .adcIndx⟩,
   ⟨0x71, .indy, .byte .adcIndy⟩,
   ⟨0xE9, .imm, .byte .sbcImm⟩,
   ⟨0xE5, .zp, .byte .sbcZp⟩,
   ⟨0xF5, .zpx, .byte .sbcZpx⟩,
   ⟨0xED, .abs, .word .sbcAbs⟩] ++
  [⟨0xFD, .absx, .word .sbcAbsx⟩,
   ⟨0xF9, .absy, .word .sbcAbsy⟩,
   ⟨0xE1, .indx, .byte .sbcIndx⟩,
   ⟨0xF1, .indy, .byte .sbcIndy⟩,
   ⟨0x29, .imm, .byte .andImm⟩,
   ⟨0x25, .zp, .byte .andZp⟩,
   ⟨0x35, .zpx, .byte .andZpx⟩,
   ⟨0x2D, .abs, .word .andAbs⟩,
   ⟨0x3D, .absx, .word .andAbsx⟩,
   ⟨0x39, .absy, .word .andAbsy⟩,
   ⟨0x21, .indx, .byte .andIndx⟩,
   ⟨0x31, .indy, .byte .andIndy⟩] ++
  [⟨0x09, .imm, .byte .oraImm⟩,
   ⟨0x05, .zp, .byte .oraZp⟩,
   ⟨0x15, .zpx, .byte .oraZpx⟩,
   ⟨0x0D, .abs, .word .oraAbs⟩,
   ⟨0x1D, .absx, .word .oraAbsx⟩,
   ⟨0x19, .absy, .word .oraAbsy⟩,
   ⟨0x01, .indx, .byte .oraIndx⟩,
   ⟨0x11, .indy, .byte .oraIndy⟩,
   ⟨0x49, .imm, .byte .eorImm⟩,
   ⟨0x45, .zp, .byte .eorZp⟩,
   ⟨0x55, .zpx, .byte .eorZpx⟩,
   ⟨0x4D, .abs, .word .eorAbs⟩] ++
  [⟨0x5D, .absx, .word .eorAbsx⟩,
   ⟨0x59, .absy, .word .eorAbsy⟩,
   ⟨0x41, .indx, .byte .eorIndx⟩,
   ⟨0x51, .indy, .byte .eorIndy⟩]

/-- The rows of R176 to R185 in R104. -/
def compareRows : List Row :=
  [⟨0x24, .zp, .byte .bitZp⟩,
   ⟨0x2C, .abs, .word .bitAbs⟩,
   ⟨0xC9, .imm, .byte .cmpImm⟩,
   ⟨0xC5, .zp, .byte .cmpZp⟩,
   ⟨0xD5, .zpx, .byte .cmpZpx⟩,
   ⟨0xCD, .abs, .word .cmpAbs⟩,
   ⟨0xDD, .absx, .word .cmpAbsx⟩,
   ⟨0xD9, .absy, .word .cmpAbsy⟩,
   ⟨0xC1, .indx, .byte .cmpIndx⟩,
   ⟨0xD1, .indy, .byte .cmpIndy⟩,
   ⟨0xE0, .imm, .byte .cpxImm⟩,
   ⟨0xE4, .zp, .byte .cpxZp⟩] ++
  [⟨0xEC, .abs, .word .cpxAbs⟩,
   ⟨0xC0, .imm, .byte .cpyImm⟩,
   ⟨0xC4, .zp, .byte .cpyZp⟩,
   ⟨0xCC, .abs, .word .cpyAbs⟩,
   ⟨0xE6, .zp, .byte .incZp⟩,
   ⟨0xF6, .zpx, .byte .incZpx⟩,
   ⟨0xEE, .abs, .word .incAbs⟩,
   ⟨0xFE, .absx, .word .incAbsx⟩,
   ⟨0xC6, .zp, .byte .decZp⟩,
   ⟨0xD6, .zpx, .byte .decZpx⟩,
   ⟨0xCE, .abs, .word .decAbs⟩,
   ⟨0xDE, .absx, .word .decAbsx⟩] ++
  [⟨0xE8, .imp, .none .inx⟩,
   ⟨0xC8, .imp, .none .iny⟩,
   ⟨0xCA, .imp, .none .dex⟩,
   ⟨0x88, .imp, .none .dey⟩]

/-- The rows of R201 to R204 in R104. -/
def shiftRows : List Row :=
  [⟨0x0A, .acc, .none .aslAcc⟩,
   ⟨0x06, .zp, .byte .aslZp⟩,
   ⟨0x16, .zpx, .byte .aslZpx⟩,
   ⟨0x0E, .abs, .word .aslAbs⟩,
   ⟨0x1E, .absx, .word .aslAbsx⟩,
   ⟨0x4A, .acc, .none .lsrAcc⟩,
   ⟨0x46, .zp, .byte .lsrZp⟩,
   ⟨0x56, .zpx, .byte .lsrZpx⟩,
   ⟨0x4E, .abs, .word .lsrAbs⟩,
   ⟨0x5E, .absx, .word .lsrAbsx⟩,
   ⟨0x2A, .acc, .none .rolAcc⟩,
   ⟨0x26, .zp, .byte .rolZp⟩] ++
  [⟨0x36, .zpx, .byte .rolZpx⟩,
   ⟨0x2E, .abs, .word .rolAbs⟩,
   ⟨0x3E, .absx, .word .rolAbsx⟩,
   ⟨0x6A, .acc, .none .rorAcc⟩,
   ⟨0x66, .zp, .byte .rorZp⟩,
   ⟨0x76, .zpx, .byte .rorZpx⟩,
   ⟨0x6E, .abs, .word .rorAbs⟩,
   ⟨0x7E, .absx, .word .rorAbsx⟩]

/-- The rows of R210 to R221 in R104. -/
def controlRows : List Row :=
  [⟨0x4C, .abs, .word .jmpAbs⟩,
   ⟨0x6C, .ind, .word .jmpInd⟩,
   ⟨0x20, .abs, .word .jsr⟩,
   ⟨0x60, .imp, .none .rts⟩,
   ⟨0x90, .rel, .byte .bcc⟩,
   ⟨0xB0, .rel, .byte .bcs⟩,
   ⟨0xF0, .rel, .byte .beq⟩,
   ⟨0xD0, .rel, .byte .bne⟩,
   ⟨0x30, .rel, .byte .bmi⟩,
   ⟨0x10, .rel, .byte .bpl⟩,
   ⟨0x50, .rel, .byte .bvc⟩,
   ⟨0x70, .rel, .byte .bvs⟩]

/-- The rows of R230 to R244 in R104. -/
def systemRows : List Row :=
  [⟨0x48, .imp, .none .pha⟩,
   ⟨0x08, .imp, .none .php⟩,
   ⟨0x68, .imp, .none .pla⟩,
   ⟨0x28, .imp, .none .plp⟩,
   ⟨0x18, .imp, .none .clc⟩,
   ⟨0xD8, .imp, .none .cld⟩,
   ⟨0x58, .imp, .none .cli⟩,
   ⟨0xB8, .imp, .none .clv⟩,
   ⟨0x38, .imp, .none .sec⟩,
   ⟨0xF8, .imp, .none .sed⟩,
   ⟨0x78, .imp, .none .sei⟩,
   ⟨0xEA, .imp, .none .nop⟩] ++
  [⟨0x00, .imp, .none .brk⟩,
   ⟨0x40, .imp, .none .rti⟩]

/-- The opcode map (R104, R106). -/
def rows : List Row :=
  loadStoreRows ++ arithRows ++ compareRows ++ shiftRows ++ controlRows ++ systemRows

/-- The row of an opcode byte, if the list has one. -/
def findRow (op : Byte) : List Row → Option Row
  | [] => none
  | r :: rest => if r.op = op then some r else findRow op rest

/-- Why bytes are no instruction. -/
inductive DecodeError where
  /-- No byte at all. -/
  | empty
  /-- The first byte is none of the 151 (R108). -/
  | unimplemented (op : Byte)
  /-- Operand bytes are missing after a good opcode byte. -/
  | truncated (op : Byte)
  deriving DecidableEq, Repr

/-- The decoder (R103): total on any bytes; the opcode byte alone decides mnemonic, format and length
(R100, R110), and every byte outside `IMPLEMENTED` is rejected (R108).  Answers the instruction and the
bytes after it. -/
def decode : List Byte → Except DecodeError (Instr × List Byte)
  | [] => .error .empty
  | op :: rest =>
    if Config.implemented op then
      match findRow op rows with
      | none => .error (.unimplemented op)
      | some r =>
        match r.maker.build rest with
        | none => .error (.truncated op)
        | some out => .ok out
    else .error (.unimplemented op)

/-- How many operand bytes the format of an opcode byte reads (R101, R110); none for a byte that is not
implemented. -/
def operandCount (op : Byte) : Option Nat :=
  if Config.implemented op then (findRow op rows).map (fun r => r.fmt.length - 1) else none

/-- The opcodes of length 1 (R105). -/
def len1 : List Byte :=
  [0x00, 0x08, 0x0A, 0x18, 0x28, 0x2A, 0x38, 0x40, 0x48, 0x4A, 0x58, 0x60, 0x68, 0x6A, 0x78, 0x88] ++
  [0x8A, 0x98, 0x9A, 0xA8, 0xAA, 0xB8, 0xBA, 0xC8, 0xCA, 0xD8, 0xE8, 0xEA, 0xF8]

/-- The opcodes of length 2 (R105). -/
def len2 : List Byte :=
  [0x01, 0x05, 0x06, 0x09, 0x10, 0x11, 0x15, 0x16, 0x21, 0x24, 0x25, 0x26, 0x29, 0x30, 0x31, 0x35] ++
  [0x36, 0x41, 0x45, 0x46, 0x49, 0x50, 0x51, 0x55, 0x56, 0x61, 0x65, 0x66, 0x69, 0x70, 0x71, 0x75] ++
  [0x76, 0x81, 0x84, 0x85, 0x86, 0x90, 0x91, 0x94, 0x95, 0x96, 0xA0, 0xA1, 0xA2, 0xA4, 0xA5, 0xA6] ++
  [0xA9, 0xB0, 0xB1, 0xB4, 0xB5, 0xB6, 0xC0, 0xC1, 0xC4, 0xC5, 0xC6, 0xC9, 0xD0, 0xD1, 0xD5, 0xD6] ++
  [0xE0, 0xE1, 0xE4, 0xE5, 0xE6, 0xE9, 0xF0, 0xF1, 0xF5, 0xF6]

/-- The opcodes of length 3 (R105). -/
def len3 : List Byte :=
  [0x0D, 0x0E, 0x19, 0x1D, 0x1E, 0x20, 0x2C, 0x2D, 0x2E, 0x39, 0x3D, 0x3E, 0x4C, 0x4D, 0x4E, 0x59] ++
  [0x5D, 0x5E, 0x6C, 0x6D, 0x6E, 0x79, 0x7D, 0x7E, 0x8C, 0x8D, 0x8E, 0x99, 0x9D, 0xAC, 0xAD, 0xAE] ++
  [0xB9, 0xBC, 0xBD, 0xBE, 0xCC, 0xCD, 0xCE, 0xD9, 0xDD, 0xDE, 0xEC, 0xED, 0xEE, 0xF9, 0xFD, 0xFE]

/-- The opcode length table `LEN` (R42, R105); it has no entry for the other 105 bytes. -/
def opLen (op : Byte) : Option Nat :=
  if len1.contains op then some 1
  else if len2.contains op then some 2
  else if len3.contains op then some 3
  else none

/-- The encoder: the bytes of an instruction, opcode first, a 16-bit operand low byte first
(R101, R102, R104). -/
def encode : Instr → List Byte
  | .ldaImm v => [0xA9, v]
  | .ldaZp z => [0xA5, z]
  | .ldaZpx z => [0xB5, z]
  | .ldaAbs addr => [0xAD, loByte addr, hiByte addr]
  | .ldaAbsx addr => [0xBD, loByte addr, hiByte addr]
  | .ldaAbsy addr => [0xB9, loByte addr, hiByte addr]
  | .ldaIndx z => [0xA1, z]
  | .ldaIndy z => [0xB1, z]
  | .ldxImm v => [0xA2, v]
  | .ldxZp z => [0xA6, z]
  | .ldxZpy z => [0xB6, z]
  | .ldxAbs addr => [0xAE, loByte addr, hiByte addr]
  | .ldxAbsy addr => [0xBE, loByte addr, hiByte addr]
  | .ldyImm v => [0xA0, v]
  | .ldyZp z => [0xA4, z]
  | .ldyZpx z => [0xB4, z]
  | .ldyAbs addr => [0xAC, loByte addr, hiByte addr]
  | .ldyAbsx addr => [0xBC, loByte addr, hiByte addr]
  | .staZp z => [0x85, z]
  | .staZpx z => [0x95, z]
  | .staAbs addr => [0x8D, loByte addr, hiByte addr]
  | .staAbsx addr => [0x9D, loByte addr, hiByte addr]
  | .staAbsy addr => [0x99, loByte addr, hiByte addr]
  | .staIndx z => [0x81, z]
  | .staIndy z => [0x91, z]
  | .stxZp z => [0x86, z]
  | .stxZpy z => [0x96, z]
  | .stxAbs addr => [0x8E, loByte addr, hiByte addr]
  | .styZp z => [0x84, z]
  | .styZpx z => [0x94, z]
  | .styAbs addr => [0x8C, loByte addr, hiByte addr]
  | .tax => [0xAA]
  | .tay => [0xA8]
  | .txa => [0x8A]
  | .tya => [0x98]
  | .tsx => [0xBA]
  | .txs => [0x9A]
  | .adcImm v => [0x69, v]
  | .adcZp z => [0x65, z]
  | .adcZpx z => [0x75, z]
  | .adcAbs addr => [0x6D, loByte addr, hiByte addr]
  | .adcAbsx addr => [0x7D, loByte addr, hiByte addr]
  | .adcAbsy addr => [0x79, loByte addr, hiByte addr]
  | .adcIndx z => [0x61, z]
  | .adcIndy z => [0x71, z]
  | .sbcImm v => [0xE9, v]
  | .sbcZp z => [0xE5, z]
  | .sbcZpx z => [0xF5, z]
  | .sbcAbs addr => [0xED, loByte addr, hiByte addr]
  | .sbcAbsx addr => [0xFD, loByte addr, hiByte addr]
  | .sbcAbsy addr => [0xF9, loByte addr, hiByte addr]
  | .sbcIndx z => [0xE1, z]
  | .sbcIndy z => [0xF1, z]
  | .andImm v => [0x29, v]
  | .andZp z => [0x25, z]
  | .andZpx z => [0x35, z]
  | .andAbs addr => [0x2D, loByte addr, hiByte addr]
  | .andAbsx addr => [0x3D, loByte addr, hiByte addr]
  | .andAbsy addr => [0x39, loByte addr, hiByte addr]
  | .andIndx z => [0x21, z]
  | .andIndy z => [0x31, z]
  | .oraImm v => [0x09, v]
  | .oraZp z => [0x05, z]
  | .oraZpx z => [0x15, z]
  | .oraAbs addr => [0x0D, loByte addr, hiByte addr]
  | .oraAbsx addr => [0x1D, loByte addr, hiByte addr]
  | .oraAbsy addr => [0x19, loByte addr, hiByte addr]
  | .oraIndx z => [0x01, z]
  | .oraIndy z => [0x11, z]
  | .eorImm v => [0x49, v]
  | .eorZp z => [0x45, z]
  | .eorZpx z => [0x55, z]
  | .eorAbs addr => [0x4D, loByte addr, hiByte addr]
  | .eorAbsx addr => [0x5D, loByte addr, hiByte addr]
  | .eorAbsy addr => [0x59, loByte addr, hiByte addr]
  | .eorIndx z => [0x41, z]
  | .eorIndy z => [0x51, z]
  | .bitZp z => [0x24, z]
  | .bitAbs addr => [0x2C, loByte addr, hiByte addr]
  | .cmpImm v => [0xC9, v]
  | .cmpZp z => [0xC5, z]
  | .cmpZpx z => [0xD5, z]
  | .cmpAbs addr => [0xCD, loByte addr, hiByte addr]
  | .cmpAbsx addr => [0xDD, loByte addr, hiByte addr]
  | .cmpAbsy addr => [0xD9, loByte addr, hiByte addr]
  | .cmpIndx z => [0xC1, z]
  | .cmpIndy z => [0xD1, z]
  | .cpxImm v => [0xE0, v]
  | .cpxZp z => [0xE4, z]
  | .cpxAbs addr => [0xEC, loByte addr, hiByte addr]
  | .cpyImm v => [0xC0, v]
  | .cpyZp z => [0xC4, z]
  | .cpyAbs addr => [0xCC, loByte addr, hiByte addr]
  | .incZp z => [0xE6, z]
  | .incZpx z => [0xF6, z]
  | .incAbs addr => [0xEE, loByte addr, hiByte addr]
  | .incAbsx addr => [0xFE, loByte addr, hiByte addr]
  | .decZp z => [0xC6, z]
  | .decZpx z => [0xD6, z]
  | .decAbs addr => [0xCE, loByte addr, hiByte addr]
  | .decAbsx addr => [0xDE, loByte addr, hiByte addr]
  | .inx => [0xE8]
  | .iny => [0xC8]
  | .dex => [0xCA]
  | .dey => [0x88]
  | .aslAcc => [0x0A]
  | .aslZp z => [0x06, z]
  | .aslZpx z => [0x16, z]
  | .aslAbs addr => [0x0E, loByte addr, hiByte addr]
  | .aslAbsx addr => [0x1E, loByte addr, hiByte addr]
  | .lsrAcc => [0x4A]
  | .lsrZp z => [0x46, z]
  | .lsrZpx z => [0x56, z]
  | .lsrAbs addr => [0x4E, loByte addr, hiByte addr]
  | .lsrAbsx addr => [0x5E, loByte addr, hiByte addr]
  | .rolAcc => [0x2A]
  | .rolZp z => [0x26, z]
  | .rolZpx z => [0x36, z]
  | .rolAbs addr => [0x2E, loByte addr, hiByte addr]
  | .rolAbsx addr => [0x3E, loByte addr, hiByte addr]
  | .rorAcc => [0x6A]
  | .rorZp z => [0x66, z]
  | .rorZpx z => [0x76, z]
  | .rorAbs addr => [0x6E, loByte addr, hiByte addr]
  | .rorAbsx addr => [0x7E, loByte addr, hiByte addr]
  | .jmpAbs addr => [0x4C, loByte addr, hiByte addr]
  | .jmpInd ptr => [0x6C, loByte ptr, hiByte ptr]
  | .jsr addr => [0x20, loByte addr, hiByte addr]
  | .rts => [0x60]
  | .bcc rel => [0x90, rel]
  | .bcs rel => [0xB0, rel]
  | .beq rel => [0xF0, rel]
  | .bne rel => [0xD0, rel]
  | .bmi rel => [0x30, rel]
  | .bpl rel => [0x10, rel]
  | .bvc rel => [0x50, rel]
  | .bvs rel => [0x70, rel]
  | .pha => [0x48]
  | .php => [0x08]
  | .pla => [0x68]
  | .plp => [0x28]
  | .clc => [0x18]
  | .cld => [0xD8]
  | .cli => [0x58]
  | .clv => [0xB8]
  | .sec => [0x38]
  | .sed => [0xF8]
  | .sei => [0x78]
  | .nop => [0xEA]
  | .brk => [0x00]
  | .rti => [0x40]

/-- The bytes of an instruction whose bits are `w`, as the opcode table numbers them: byte k is bits
8k+7..8k, and every bit at or above `nbits` is 0. -/
def tableBytes (nbits w : Nat) : List Byte :=
  let v := w % 2 ^ nbits
  [BitVec.ofNat 8 v, BitVec.ofNat 8 (v / 256), BitVec.ofNat 8 (v / 65536)]

/-- What the decoder reads from an instruction whose bits are `w`, numbered as the opcode table does. -/
def decodeTableWord (nbits w : Nat) : Option Instr :=
  match decode (tableBytes nbits w) with
  | .ok (i, _) => some i
  | .error _ => none

end Sys2Proof
end

