-- ==== Sys2Proof/WellFormed.lean ====
section
/-! DEFINITION. Well-formed instructions.  `Instr` has a constructor only for the (mnemonic, format) pairs
R104 lists, with operand fields of exactly the width R101 gives them, so neither can be wrong.  What is
left to check is the lock-step invariant R107 for the instruction at hand: its opcode byte is in
`IMPLEMENTED`, and `LEN` has an entry for it that is the number of bytes the instruction takes. -/

namespace Sys2Proof

/-- The checks, for any set of implemented opcodes and any length table (R8 admits a smaller set,
provided `LEN` shrinks with it). -/
def wellFormedIn (impl : Byte → Bool) (len : Byte → Option Nat) (i : Instr) : Bool :=
  match encode i with
  | [] => false
  | op :: operands => impl op && (len op == some (operands.length + 1))

/-- The instruction is well-formed for this machine's `IMPLEMENTED` and `LEN` (R107). -/
def wellFormed (i : Instr) : Bool := wellFormedIn Config.implemented opLen i

end Sys2Proof
end

