-- ==== Sys2Proof/Machine/State.lean ====
section
/-! DEFINITION. The machine's state as plain data (10_state.md, R20 to R43), the reasons a step can stop
(R260, R261), and the state right after load and reset. -/

namespace Sys2Proof.Machine

/-- One of the byte stores (`stack`, `wram`, `cram`, `prg`, `chr`, `oam`, `vram`, `pal`): the listed cells
by index, strictly rising, none equal to `Config.unlisted`, which is what every other cell reads as. -/
abbrev Memory := List Host.Cell

/-- The direction of an access, part of a fault's info (R261). -/
inductive Dir where
  | read | write
  deriving DecidableEq, Repr

/-- The space a read-only violation happened in (R261). -/
inductive Space where
  | bus | peripheral | video
  deriving DecidableEq, Repr

/-- The fault kinds with their info: the complete list of R261.  Every one is the spec's own and ends the
run (R260), so stopping there is safe. -/
inductive Fault where
  /-- Raised by `loadFile`: header bytes 0 to 3 are not the magic sequence (R293). Safe. -/
  | badMagic
  /-- Raised by `loadFile`: the mapper number is not the direct-mapped one (R293). Safe. -/
  | unsupportedMapper (number : Byte)
  /-- Raised by `fetch`: the opcode byte `op`, fetched from `addr`, is not implemented (R108). Safe. -/
  | unimplementedOpcode (op : Byte) (addr : Word)
  /-- Raised by `busRead` and `busWrite`: the address is in 0x4019 to 0x5FFF (R57). Safe. -/
  | unmappedAddress (addr : Word) (dir : Dir)
  /-- Raised by `busWrite` and `periphWrite`: a write to ROM (R56), to peripheral index 2 (R75), or
  through index 7 to graphics memory (R83). Safe. -/
  | readOnlyViolation (space : Space) (addr : Word)
  /-- Raised by `periphRead`: a read of a write-only index (R71).  Both directions, for an index that does
  not exist (R84), which the bus never produces. Safe. -/
  | unsupportedRegisterAccess (index : Nat) (dir : Dir)
  /-- Raised by `videoRead` and `videoWrite`: `vaddr` is outside the three ranges, or in graphics memory
  at or beyond `CHR_LEN` (R82, R83). Safe. -/
  | unmappedVideoAddress (va : Word) (dir : Dir)
  deriving DecidableEq, Repr

/-- The reasons for having no meaning.  No instruction is refused. -/
inductive Refusal where
  /-- An instruction without a meaning; raised by nothing, every instruction has one. Safe. -/
  | notModelled (mnemonic : String)
  /-- Raised by `load`: program or graphics bytes of another length than R294 admits, which a model refuses
  at load. Safe. -/
  | cartridgeSize (prgLength chrLength : Nat)
  /-- Raised by `loadFile`: the file ends before the bytes its header promises (log entry 9). Safe. -/
  | cartridgeTruncated
  deriving DecidableEq, Repr

/-- The run status `halted` (R43). -/
inductive RunStatus where
  | running
  | faulted (f : Fault)
  deriving DecidableEq, Repr

/-- The admitted values of `PRG_LEN` (R8, R294). -/
inductive PrgSize where
  | kib16 | kib32
  deriving DecidableEq, Repr

/-- `PRG_LEN`. -/
def PrgSize.bytes : PrgSize → Nat
  | .kib16 => 16384
  | .kib32 => 32768

/-- The admitted values of `CHR_LEN` (R8, R294). -/
inductive ChrSize where
  | none | kib8
  deriving DecidableEq, Repr

/-- `CHR_LEN`. -/
def ChrSize.bytes : ChrSize → Nat
  | .none => 0
  | .kib8 => 8192

/-- All the state the spec gives the machine (10_state.md), and `statusIn`, the model's own input list. -/
structure State where
  /-- Accumulator (R20). -/
  a : Byte
  /-- Index register X (R21). -/
  x : Byte
  /-- Index register Y (R22). -/
  y : Byte
  /-- Stack pointer (R26). -/
  sp : Byte
  /-- Status register (R24). -/
  p : Byte
  /-- Program counter (R23). -/
  pc : Word
  /-- The CPU's private stack array (R27). -/
  stack : Memory
  /-- Work memory (R28). -/
  wram : Memory
  /-- Cartridge RAM (R29). -/
  cram : Memory
  /-- Program memory (R30). -/
  prg : Memory
  /-- `PRG_LEN` (R8, R30). -/
  prgSize : PrgSize
  /-- Graphics memory (R31). -/
  chr : Memory
  /-- `CHR_LEN` (R8, R31). -/
  chrSize : ChrSize
  /-- Peripheral index 0 (R32). -/
  ctrl : Byte
  /-- Peripheral index 1 (R33). -/
  mask : Byte
  /-- Peripheral index 2 (R34), driven by the host. -/
  status : Byte
  /-- OAM index (R35). -/
  oamAddr : Byte
  /-- Object Attribute Memory (R36). -/
  oam : Memory
  /-- Horizontal scroll (R37). -/
  scrollX : Byte
  /-- Vertical scroll (R37). -/
  scrollY : Byte
  /-- The video-address latch (R38). -/
  vaddr : Word
  /-- The write toggle `w` (R39): true when the next write of index 5 or 6 is a second write. -/
  w : Bool
  /-- Internal video memory (R40). -/
  vram : Memory
  /-- Palette memory (R41). -/
  pal : Memory
  /-- The run status (R43). -/
  halted : RunStatus
  /-- The parameter `STATUS_IN` (R8, R298): the values the host will give to `status`, one before each
  step.  The model's own field.  DESIGN CHOICE (log entry 4). -/
  statusIn : List Byte
  deriving DecidableEq, Repr

/-- What a meaning and a step answer. -/
abbrev Result := Host.Outcome State Fault Refusal

namespace State

/-- The machine right after load and reset, with no cartridge bytes placed (R291, R295).  The registers
are the spec's.  The memories list nothing (log entry 2) and the sizes are those of the spec's common start
state (log entry 3), both DESIGN CHOICE; `PC` is the word the reset vector then holds. -/
def reset : State where
  a := 0
  x := 0
  y := 0
  sp := 0
  p := 0
  pc := 0
  stack := []
  wram := []
  cram := []
  prg := []
  prgSize := .kib32
  chr := []
  chrSize := .kib8
  ctrl := 0
  mask := 0
  status := 0
  oamAddr := 0
  oam := []
  scrollX := 0
  scrollY := 0
  vaddr := 0
  w := false
  vram := []
  pal := []
  halted := .running
  statusIn := []

/-- `A <- v`. -/
def setA (s : State) (v : Byte) : State := { s with a := v }
/-- `X <- v`. -/
def setX (s : State) (v : Byte) : State := { s with x := v }
/-- `Y <- v`. -/
def setY (s : State) (v : Byte) : State := { s with y := v }
/-- `SP <- v`. -/
def setSp (s : State) (v : Byte) : State := { s with sp := v }
/-- `P <- v`. -/
def setP (s : State) (v : Byte) : State := { s with p := v }
/-- `PC <- v`. -/
def setPc (s : State) (v : Word) : State := { s with pc := v }
/-- The stack array replaced. -/
def setStack (s : State) (m : Memory) : State := { s with stack := m }
/-- Work memory replaced. -/
def setWram (s : State) (m : Memory) : State := { s with wram := m }
/-- Cartridge RAM replaced. -/
def setCram (s : State) (m : Memory) : State := { s with cram := m }
/-- Program memory replaced; no instruction does this (R30). -/
def setPrg (s : State) (m : Memory) : State := { s with prg := m }
/-- `ctrl <- v`. -/
def setCtrl (s : State) (v : Byte) : State := { s with ctrl := v }
/-- `mask <- v`. -/
def setMask (s : State) (v : Byte) : State := { s with mask := v }
/-- `status <- v`; only the host does this (R34, R298). -/
def setStatus (s : State) (v : Byte) : State := { s with status := v }
/-- `oam_addr <- v`. -/
def setOamAddr (s : State) (v : Byte) : State := { s with oamAddr := v }
/-- OAM replaced. -/
def setOam (s : State) (m : Memory) : State := { s with oam := m }
/-- `scroll_x <- v`. -/
def setScrollX (s : State) (v : Byte) : State := { s with scrollX := v }
/-- `scroll_y <- v`. -/
def setScrollY (s : State) (v : Byte) : State := { s with scrollY := v }
/-- `vaddr <- v`. -/
def setVaddr (s : State) (v : Word) : State := { s with vaddr := v }
/-- `w <- v`. -/
def setW (s : State) (v : Bool) : State := { s with w := v }
/-- Internal video memory replaced. -/
def setVram (s : State) (m : Memory) : State := { s with vram := m }
/-- Palette memory replaced. -/
def setPal (s : State) (m : Memory) : State := { s with pal := m }
/-- `halted <- r`. -/
def setHalted (s : State) (r : RunStatus) : State := { s with halted := r }
/-- The host's pending `status` values replaced. -/
def setStatusIn (s : State) (vs : List Byte) : State := { s with statusIn := vs }

end State

end Sys2Proof.Machine
end

