-- ==== Sys2Proof/Machine/Flags.lean ====
section
/-! DEFINITION. The flags of `P` and every flag computation: bit positions (R24), `SetZN` (R137), add and
subtract with carry (R171, R172), compare (R177), bit test (R176), shifts and rotates (R201 to R204). -/

namespace Sys2Proof.Machine

/-- The bits of `P` (R24): carry, zero, interrupt-disable, decimal, break, unnamed, overflow, negative. -/
inductive Flag where
  | c | z | i | d | b | u | v | n
  deriving DecidableEq, Repr

/-- The bit position of a flag (R24). -/
def Flag.bit : Flag → Nat
  | .c => 0 | .z => 1 | .i => 2 | .d => 3 | .b => 4 | .u => 5 | .v => 6 | .n => 7

/-- The byte with only the flag's bit set. -/
def Flag.mask (f : Flag) : Byte := 1 <<< f.bit

/-- `P.f` read. -/
def getFlag (p : Byte) (f : Flag) : Bool := p.getLsbD f.bit

/-- `P.f <- v`: the other seven bits stay (R24). -/
def putFlag (p : Byte) (f : Flag) (v : Bool) : Byte :=
  if v then p ||| f.mask else p &&& ~~~f.mask

/-- `SetZN(v)` (R137). -/
def setZN (p v : Byte) : Byte := putFlag (putFlag p .z (v == 0)) .n v.msb

/-- A flag as the integer 0 or 1. -/
def carryNat (c : Bool) : Nat := if c then 1 else 0

/-- What an addition gives: result, carry, overflow. -/
structure Sum where
  r : Byte
  c : Bool
  v : Bool
  deriving DecidableEq, Repr

/-- `a + m + c` with its carry and signed overflow (R171). -/
def addCarry (a m : Byte) (c : Bool) : Sum :=
  let s := a.toNat + m.toNat + carryNat c
  let r := BitVec.ofNat 8 s
  { r := r, c := decide (s > 255), v := ((a ^^^ r) &&& (m ^^^ r) &&& 0x80) != 0 }

/-- `a - m - (1 - c)`: the addition of the one's complement of `m` (R172). -/
def subBorrow (a m : Byte) (c : Bool) : Sum := addCarry a (m ^^^ 0xFF) c

/-- `P` after ADC or SBC: C, V, then Z and N of the result (R171, R172). -/
def sumFlags (p : Byte) (o : Sum) : Byte := setZN (putFlag (putFlag p .c o.c) .v o.v) o.r

/-- `P` after comparing `r` with `m` (R177 to R179): C, Z and N, each on its own. -/
def compareFlags (p r m : Byte) : Byte :=
  putFlag (putFlag (putFlag p .c (decide (m.toNat ≤ r.toNat))) .z (r == m)) .n (r - m).msb

/-- `P` after BIT (R176): Z of `a & m`, N and V the top two bits of the operand. -/
def bitFlags (p a m : Byte) : Byte :=
  putFlag (putFlag (putFlag p .z ((a &&& m) == 0)) .n (m.getLsbD 7)) .v (m.getLsbD 6)

/-- What a one-bit shift gives: result and the bit shifted out. -/
structure Shifted where
  r : Byte
  c : Bool
  deriving DecidableEq, Repr

/-- ASL (R201). -/
def shiftLeft (v : Byte) (_ : Bool) : Shifted := { r := v <<< 1, c := v.getLsbD 7 }

/-- LSR (R202). -/
def shiftRight (v : Byte) (_ : Bool) : Shifted := { r := v >>> 1, c := v.getLsbD 0 }

/-- ROL (R203): the old carry enters bit 0. -/
def rotateLeft (v : Byte) (c : Bool) : Shifted :=
  { r := (v <<< 1) ||| BitVec.ofNat 8 (carryNat c), c := v.getLsbD 7 }

/-- ROR (R204): the old carry enters bit 7. -/
def rotateRight (v : Byte) (c : Bool) : Shifted :=
  { r := (v >>> 1) ||| (BitVec.ofNat 8 (carryNat c) <<< 7), c := v.getLsbD 0 }

/-- `P` after a shift or rotate: C the bit shifted out, Z and N of the result (R200). -/
def shiftFlags (p : Byte) (o : Shifted) : Byte := setZN (putFlag p .c o.c) o.r

namespace State

/-- `P.f` of a state. -/
def flag (s : State) (f : Flag) : Bool := getFlag s.p f

/-- `P.f <- v` on a state. -/
def setFlag (s : State) (f : Flag) (v : Bool) : State := s.setP (putFlag s.p f v)

/-- `SetZN(v)` on a state (R137). -/
def updateZN (s : State) (v : Byte) : State := s.setP (Sys2Proof.Machine.setZN s.p v)

end State

end Sys2Proof.Machine
end

