-- ==== Sys2Proof/Machine/Ops.lean ====
section
/-! DEFINITION. The named operations over memory and registers: one byte of a store, the bus decoder
(R51 to R63), the peripheral register file (R70 to R85), the stack array (R138 to R140), the break trap and
its return (R243, R244, R267, R268), the program counter's auto-advance (R122) and the host's draw of
`status` (R298). -/

namespace Sys2Proof.Machine

/-! ### One byte of a store -/

namespace Memory

/-- The byte at index `a`. -/
def read : Memory → Nat → Byte
  | [], _ => Config.unlisted
  | (k, b) :: rest, a =>
    if a < k then Config.unlisted else if a = k then b else read rest a

/-- The list without its leading cells up to index `a`; a canonical list whose first index is above `a`
stays as it is. -/
def above (a : Nat) : Memory → Memory
  | [] => []
  | (k, b) :: rest => if k ≤ a then above a rest else (k, b) :: rest

/-- The cell `a` holding `v` before `rest`; nothing when `v` is what an unlisted cell reads as. -/
def cons (a : Nat) (v : Byte) (rest : Memory) : Memory :=
  if v = Config.unlisted then rest else (a, v) :: rest

/-- The byte at index `a` replaced by `v`, keeping the canonical form. -/
def write : Memory → Nat → Byte → Memory
  | [], a, v => cons a v []
  | (k, b) :: rest, a, v =>
    if a < k then cons a v ((k, b) :: rest)
    else if a = k then cons a v (above a rest)
    else (k, b) :: write rest a v

/-- Every listed index is in `lo` to `size - 1`, the indices rise strictly, no listed byte is
`Config.unlisted`. -/
def wfFrom (lo size : Nat) : Memory → Bool
  | [] => true
  | (k, b) :: rest =>
    decide (lo ≤ k) && decide (k < size) && (b != Config.unlisted) && wfFrom (k + 1) size rest

/-- The canonical form of a store of `size` bytes. -/
def wf (size : Nat) (m : Memory) : Bool := wfFrom 0 size m

end Memory

/-! ### Sequencing -/

/-- The rest of an operation after a value was obtained; a fault ends it there (R260, R264). -/
def andThen {α β : Type} (r : Except Fault (α × State)) (k : α → State → Except Fault β) :
    Except Fault β :=
  match r with
  | .error f => .error f
  | .ok (v, s) => k v s

/-- The end of an instruction: a next state or the fault that ended it. -/
def finish : Except Fault State → Result
  | .ok s => .next s
  | .error f => .fault f

/-! ### The bus decoder -/

/-- Where a bus address leads (R51), with the index inside the store or register file. -/
inductive Region where
  /-- Work memory and its mirrors (R52). -/
  | wram (i : Nat)
  /-- The register window (R53). -/
  | periph (i : Nat)
  /-- 0x4014: the bulk-copy register for writes, stub for reads (R59). -/
  | bulkCopy
  /-- The stub region (R58). -/
  | stub
  /-- No region (R57). -/
  | unmapped
  /-- Cartridge RAM (R54). -/
  | cram (i : Nat)
  /-- Cartridge ROM, offset from 0x8000 (R55, R56). -/
  | rom (off : Nat)
  deriving DecidableEq, Repr

/-- The region of a bus address (R51). -/
def regionOf (a : Word) : Region :=
  let n := a.toNat
  if n ≤ 0x1FFF then .wram (n % 0x0800)
  else if n ≤ 0x3FFF then .periph ((n - 0x2000) % 8)
  else if n = 0x4014 then .bulkCopy
  else if n ≤ 0x4018 then .stub
  else if n ≤ 0x5FFF then .unmapped
  else if n ≤ 0x7FFF then .cram (n - 0x6000)
  else .rom (n - 0x8000)

/-- The index of `prg` a ROM offset reads (R55). -/
def State.romIndex (s : State) (off : Nat) : Nat := off % s.prgSize.bytes

/-! ### The peripheral register file -/

/-- `VideoRead(va)` (R82). -/
def videoRead (va : Word) (s : State) : Except Fault Byte :=
  let n := va.toNat
  if n ≤ 0x1FFF then
    if n < s.chrSize.bytes then .ok (Memory.read s.chr n) else .error (.unmappedVideoAddress va .read)
  else if n ≤ Config.vramTop then .ok (Memory.read s.vram ((n - 0x2000) % 2048))
  else if 0x3F00 ≤ n ∧ n ≤ 0x3FFF then .ok (Memory.read s.pal (n % 32))
  else .error (.unmappedVideoAddress va .read)

/-- `VideoWrite(va, v)` (R83). -/
def videoWrite (va : Word) (v : Byte) (s : State) : Except Fault State :=
  let n := va.toNat
  if n ≤ 0x1FFF then .error (.readOnlyViolation .video va)
  else if n ≤ Config.vramTop then .ok (s.setVram (Memory.write s.vram ((n - 0x2000) % 2048) v))
  else if 0x3F00 ≤ n ∧ n ≤ 0x3FFF then .ok (s.setPal (Memory.write s.pal (n % 32) v))
  else .error (.unmappedVideoAddress va .write)

/-- `PeriphRead(i)` (R70, R71, R74, R78, R82, R84). -/
def periphRead (i : Nat) (s : State) : Except Fault (Byte × State) :=
  if i = 2 then .ok (s.status, s.setW false)
  else if i = 4 then .ok (Memory.read s.oam s.oamAddr.toNat, s)
  else if i = 7 then
    match videoRead s.vaddr s with
    | .ok b => .ok (b, s)
    | .error f => .error f
  else .error (.unsupportedRegisterAccess i .read)

/-- `BusRead(a)` (R60). -/
def busRead (a : Word) (s : State) : Except Fault (Byte × State) :=
  match regionOf a with
  | .wram i => .ok (Memory.read s.wram i, s)
  | .periph i => periphRead i s
  | .bulkCopy => .ok (0x00, s)
  | .stub => .ok (0x00, s)
  | .unmapped => .error (.unmappedAddress a .read)
  | .cram i => .ok (Memory.read s.cram i, s)
  | .rom off => .ok (Memory.read s.prg (s.romIndex off), s)

/-- The bus address of byte `i` of the page a bulk copy of value `v` reads (R85). -/
def copySource (v : Byte) (i : Nat) : Word := (zext v <<< 8) + BitVec.ofNat 16 i

/-- The bulk copy over the OAM indices given (R85): each byte a full bus read, in order, the first fault
ending it. -/
def bulkCopy (v : Byte) : List Nat → State → Except Fault State
  | [], s => .ok s
  | i :: rest, s =>
    andThen (busRead (copySource v i) s) fun b s1 =>
      bulkCopy v rest (s1.setOam (Memory.write s1.oam i b))

/-- `PeriphWrite(i, v)` (R70, R72, R73, R75, R76, R79 to R85). -/
def periphWrite (i : Nat) (v : Byte) (s : State) : Except Fault State :=
  if i = 0 then .ok (s.setCtrl v)
  else if i = 1 then .ok (s.setMask v)
  else if i = 2 then .error (.readOnlyViolation .peripheral 2)
  else if i = 3 then .ok (s.setOamAddr v)
  else if i = 4 then
    .ok ((s.setOam (Memory.write s.oam s.oamAddr.toNat v)).setOamAddr (s.oamAddr + 1))
  else if i = 5 then
    .ok ((if s.w then s.setScrollY v else s.setScrollX v).setW (!s.w))
  else if i = 6 then
    .ok ((s.setVaddr (if s.w then mkWord (hiByte s.vaddr) v else mkWord v (loByte s.vaddr))).setW (!s.w))
  else if i = 7 then videoWrite s.vaddr v s
  else if i = 8 then bulkCopy v (List.range 256) s
  else .error (.unsupportedRegisterAccess i .write)

/-- `BusWrite(a, v)` (R61). -/
def busWrite (a : Word) (v : Byte) (s : State) : Except Fault State :=
  match regionOf a with
  | .wram i => .ok (s.setWram (Memory.write s.wram i v))
  | .periph i => periphWrite i v s
  | .bulkCopy => periphWrite 8 v s
  | .stub => .ok s
  | .unmapped => .error (.unmappedAddress a .write)
  | .cram i => .ok (s.setCram (Memory.write s.cram i v))
  | .rom _ => .error (.readOnlyViolation .bus a)

/-- `MemRead(a, 2)` (R62): low byte first, the second address wrapping. -/
def memRead16 (a : Word) (s : State) : Except Fault (Word × State) :=
  andThen (busRead a s) fun lo s1 =>
    andThen (busRead (a + 1) s1) fun hi s2 => .ok (mkWord hi lo, s2)

/-- `MemWrite(a, 2, v)` (R63): low byte first.  No instruction uses it; R63 defines it. -/
def memWrite16 (a : Word) (v : Word) (s : State) : Except Fault State :=
  match busWrite a (loByte v) s with
  | .error f => .error f
  | .ok s1 => busWrite (a + 1) (hiByte v) s1

/-! ### Registers by name -/

/-- The four 8-bit registers the loads, stores, transfers, compares and increments name. -/
inductive Reg where
  | a | x | y | sp
  deriving DecidableEq, Repr

/-- A register's value. -/
def State.reg (s : State) : Reg → Byte
  | .a => s.a
  | .x => s.x
  | .y => s.y
  | .sp => s.sp

/-- A register written. -/
def State.setReg (s : State) : Reg → Byte → State
  | .a, v => s.setA v
  | .x, v => s.setX v
  | .y, v => s.setY v
  | .sp, v => s.setSp v

/-! ### The stack array -/

/-- `Push(v)` (R138): store, then decrement. -/
def push (v : Byte) (s : State) : State :=
  (s.setStack (Memory.write s.stack s.sp.toNat v)).setSp (s.sp - 1)

/-- `Pull()` (R139): increment, then read. -/
def pull (s : State) : Byte × State :=
  let s1 := s.setSp (s.sp + 1)
  (Memory.read s1.stack s1.sp.toNat, s1)

/-- A 16-bit push, high byte first (R140). -/
def pushWord (v : Word) (s : State) : State := push (loByte v) (push (hiByte v) s)

/-- A 16-bit pull, low byte first (R140). -/
def pullWord (s : State) : Word × State :=
  let (lo, s1) := pull s
  let (hi, s2) := pull s1
  (mkWord hi lo, s2)

/-! ### The break trap -/

/-- Trap entry (R243, R267): push the return address and `P` as it stands, go to the break vector's
word, then set B.  Nothing else changes; `P.I` is not touched. -/
def takeBreak (ret : Word) (s : State) : Except Fault State :=
  let saved := push s.p (pushWord ret s)
  andThen (memRead16 Config.breakVector saved) fun target s1 =>
    .ok ((s1.setPc target).setFlag .b true)

/-- Trap return (R244, R268): pull all 8 bits of `P`, then the address, with no adjustment. -/
def returnFromBreak (s : State) : State :=
  let (p, s1) := pull s
  let (target, s2) := pullWord (s1.setP p)
  s2.setPc target

/-! ### Around an instruction -/

/-- The host's draw of `status` before a step (R298): the next value of `STATUS_IN`, if the host still
supplies one. -/
def drawStatus (s : State) : State :=
  match s.statusIn with
  | [] => s
  | v :: rest => (s.setStatus v).setStatusIn rest

/-- The auto-advance after an operation (R122, corner R123): if `PC` still equals `pc0`, its value just
past the opcode, it moves on by `LEN(op) - 1`. -/
def autoAdvance (op : Byte) (pc0 : Word) : Result → Result
  | .next t =>
    if t.pc = pc0 then .next (t.setPc (t.pc + BitVec.ofNat 16 ((opLen op).getD 1 - 1))) else .next t
  | .fault f => .fault f
  | .refused r => .refused r

end Sys2Proof.Machine
end

