-- ==== Sys2Proof/Machine/Operands.lean ====
section
/-! DEFINITION. Every operand form: the effective address of each memory mode (R124 to R131), the branch
target (R132), and where an operand value comes from or goes to (R124, R134).  The operand bytes
themselves are read by the fetch (R135) and stand in the instruction; `PC` is `pc0` throughout and no mode
changes it (R122). -/

namespace Sys2Proof.Machine

/-- The eight modes that name a data byte in memory, each with its operand field (R101). -/
inductive AddrMode where
  | zp (z : Byte)
  | zpx (z : Byte)
  | zpy (z : Byte)
  | abs (addr : Word)
  | absx (addr : Word)
  | absy (addr : Word)
  | indx (z : Byte)
  | indy (z : Byte)
  deriving DecidableEq, Repr

/-- The pointer in page 0 at `z`, both bytes from page 0 (R130, R131). -/
def zeroPagePointer (z : Byte) (s : State) : Except Fault (Word × State) :=
  andThen (busRead (zext z) s) fun lo s1 =>
    andThen (busRead (zext (z + 1)) s1) fun hi s2 => .ok (mkWord hi lo, s2)

/-- The effective address of a mode (R125 to R128, R130, R131). -/
def effAddr : AddrMode → State → Except Fault (Word × State)
  | .zp z, s => .ok (zext z, s)
  | .zpx z, s => .ok (zext (z + s.x), s)
  | .zpy z, s => .ok (zext (z + s.y), s)
  | .abs addr, s => .ok (addr, s)
  | .absx addr, s => .ok (addr + zext s.x, s)
  | .absy addr, s => .ok (addr + zext s.y, s)
  | .indx z, s => zeroPagePointer (z + s.x) s
  | .indy z, s => andThen (zeroPagePointer z s) fun ptr s1 => .ok (ptr + zext s1.y, s1)

/-- The target of an indirect jump through `ptr` (R129): the high byte always comes from the page of
`ptr`. -/
def indirectTarget (ptr : Word) (s : State) : Except Fault (Word × State) :=
  andThen (busRead ptr s) fun lo s1 =>
    andThen (busRead (mkWord (hiByte ptr) (loByte ptr + 1)) s1) fun hi s2 => .ok (mkWord hi lo, s2)

/-- The target of a branch whose `PC` is `pc0` (R132). -/
def branchTarget (pc0 : Word) (rel : Byte) : Word := pc0 + 1 + sext rel

/-- Where a read operand comes from: the operand byte itself (R124) or memory. -/
inductive Source where
  | imm (v : Byte)
  | mem (mode : AddrMode)
  deriving DecidableEq, Repr

/-- The operand value `M` (R121): resolve, then one bus read. -/
def Source.read : Source → State → Except Fault (Byte × State)
  | .imm v, s => .ok (v, s)
  | .mem mode, s => andThen (effAddr mode s) fun ea s1 => busRead ea s1

/-- What a shift or rotate works on: `A` (R134) or memory (R200). -/
inductive Target where
  | acc
  | mem (mode : AddrMode)
  deriving DecidableEq, Repr

/-- Read a target, compute the new byte and the new `P` from its value and the state, write it back
(R66, R200): one read and one write of the same address. -/
def Target.modify (t : Target) (value : Byte → State → Byte) (flags : Byte → State → Byte) (s : State) :
    Except Fault State :=
  match t with
  | .acc => .ok ((s.setA (value s.a s)).setP (flags s.a s))
  | .mem mode =>
    andThen (effAddr mode s) fun ea s1 =>
      andThen (busRead ea s1) fun v s2 =>
        match busWrite ea (value v s2) s2 with
        | .error f => .error f
        | .ok s3 => .ok (s3.setP (flags v s2))

end Sys2Proof.Machine
end

