-- ==== Sys2Proof/Machine/ArithLogic.lean ====
section
/-! DEFINITION. Arithmetic, logic, compare, increment and decrement (42_arithmetic_logic.md, R170 to R185). -/

namespace Sys2Proof.Machine

/-- ADC and SBC over their adder (R171, R172): binary whatever `P.D` holds (R170). -/
def addToA (adder : Byte → Byte → Bool → Sum) (src : Source) (s : State) : Result :=
  finish (andThen (src.read s) fun m s1 =>
    let o := adder s1.a m (s1.flag .c)
    .ok ((s1.setA o.r).setP (sumFlags s1.p o)))

/-- AND, ORA, EOR over their bitwise function (R173 to R175). -/
def logicToA (f : Byte → Byte → Byte) (src : Source) (s : State) : Result :=
  finish (andThen (src.read s) fun m s1 => .ok ((s1.setA (f s1.a m)).updateZN (f s1.a m)))

/-- BIT (R176): three flags, no register. -/
def bitTest (mode : AddrMode) (s : State) : Result :=
  finish (andThen (Source.read (.mem mode) s) fun m s1 => .ok (s1.setP (bitFlags s1.p s1.a m)))

/-- CMP, CPX, CPY (R177 to R179): three flags, no register. -/
def compareReg (r : Reg) (src : Source) (s : State) : Result :=
  finish (andThen (src.read s) fun m s1 => .ok (s1.setP (compareFlags s1.p (s1.reg r) m)))

/-- INC and DEC (R180, R181): add `d` to a memory byte. -/
def stepMemory (d : Byte) (mode : AddrMode) (s : State) : Result :=
  finish (Target.modify (.mem mode) (fun v _ => v + d) (fun v s1 => setZN s1.p (v + d)) s)

/-- INX, INY, DEX, DEY (R182 to R185): add `d` to a register. -/
def stepReg (r : Reg) (d : Byte) (s : State) : Result :=
  .next ((s.setReg r (s.reg r + d)).updateZN (s.reg r + d))

/-- ADC immediate, 0x69 (R171). -/
def execAdcImm (v : Byte) (s : State) : Result :=
  addToA addCarry (.imm v) s

/-- ADC zero-page, 0x65 (R171). -/
def execAdcZp (z : Byte) (s : State) : Result :=
  addToA addCarry (.mem (.zp z)) s

/-- ADC zero-page,X, 0x75 (R171). -/
def execAdcZpx (z : Byte) (s : State) : Result :=
  addToA addCarry (.mem (.zpx z)) s

/-- ADC absolute, 0x6D (R171). -/
def execAdcAbs (addr : Word) (s : State) : Result :=
  addToA addCarry (.mem (.abs addr)) s

/-- ADC absolute,X, 0x7D (R171). -/
def execAdcAbsx (addr : Word) (s : State) : Result :=
  addToA addCarry (.mem (.absx addr)) s

/-- ADC absolute,Y, 0x79 (R171). -/
def execAdcAbsy (addr : Word) (s : State) : Result :=
  addToA addCarry (.mem (.absy addr)) s

/-- ADC indirect,X, 0x61 (R171). -/
def execAdcIndx (z : Byte) (s : State) : Result :=
  addToA addCarry (.mem (.indx z)) s

/-- ADC indirect,Y, 0x71 (R171). -/
def execAdcIndy (z : Byte) (s : State) : Result :=
  addToA addCarry (.mem (.indy z)) s

/-- SBC immediate, 0xE9 (R172). -/
def execSbcImm (v : Byte) (s : State) : Result :=
  addToA subBorrow (.imm v) s

/-- SBC zero-page, 0xE5 (R172). -/
def execSbcZp (z : Byte) (s : State) : Result :=
  addToA subBorrow (.mem (.zp z)) s

/-- SBC zero-page,X, 0xF5 (R172). -/
def execSbcZpx (z : Byte) (s : State) : Result :=
  addToA subBorrow (.mem (.zpx z)) s

/-- SBC absolute, 0xED (R172). -/
def execSbcAbs (addr : Word) (s : State) : Result :=
  addToA subBorrow (.mem (.abs addr)) s

/-- SBC absolute,X, 0xFD (R172). -/
def execSbcAbsx (addr : Word) (s : State) : Result :=
  addToA subBorrow (.mem (.absx addr)) s

/-- SBC absolute,Y, 0xF9 (R172). -/
def execSbcAbsy (addr : Word) (s : State) : Result :=
  addToA subBorrow (.mem (.absy addr)) s

/-- SBC indirect,X, 0xE1 (R172). -/
def execSbcIndx (z : Byte) (s : State) : Result :=
  addToA subBorrow (.mem (.indx z)) s

/-- SBC indirect,Y, 0xF1 (R172). -/
def execSbcIndy (z : Byte) (s : State) : Result :=
  addToA subBorrow (.mem (.indy z)) s

/-- AND immediate, 0x29 (R173). -/
def execAndImm (v : Byte) (s : State) : Result :=
  logicToA (· &&& ·) (.imm v) s

/-- AND zero-page, 0x25 (R173). -/
def execAndZp (z : Byte) (s : State) : Result :=
  logicToA (· &&& ·) (.mem (.zp z)) s

/-- AND zero-page,X, 0x35 (R173). -/
def execAndZpx (z : Byte) (s : State) : Result :=
  logicToA (· &&& ·) (.mem (.zpx z)) s

/-- AND absolute, 0x2D (R173). -/
def execAndAbs (addr : Word) (s : State) : Result :=
  logicToA (· &&& ·) (.mem (.abs addr)) s

/-- AND absolute,X, 0x3D (R173). -/
def execAndAbsx (addr : Word) (s : State) : Result :=
  logicToA (· &&& ·) (.mem (.absx addr)) s

/-- AND absolute,Y, 0x39 (R173). -/
def execAndAbsy (addr : Word) (s : State) : Result :=
  logicToA (· &&& ·) (.mem (.absy addr)) s

/-- AND indirect,X, 0x21 (R173). -/
def execAndIndx (z : Byte) (s : State) : Result :=
  logicToA (· &&& ·) (.mem (.indx z)) s

/-- AND indirect,Y, 0x31 (R173). -/
def execAndIndy (z : Byte) (s : State) : Result :=
  logicToA (· &&& ·) (.mem (.indy z)) s

/-- ORA immediate, 0x09 (R174). -/
def execOraImm (v : Byte) (s : State) : Result :=
  logicToA (· ||| ·) (.imm v) s

/-- ORA zero-page, 0x05 (R174). -/
def execOraZp (z : Byte) (s : State) : Result :=
  logicToA (· ||| ·) (.mem (.zp z)) s

/-- ORA zero-page,X, 0x15 (R174). -/
def execOraZpx (z : Byte) (s : State) : Result :=
  logicToA (· ||| ·) (.mem (.zpx z)) s

/-- ORA absolute, 0x0D (R174). -/
def execOraAbs (addr : Word) (s : State) : Result :=
  logicToA (· ||| ·) (.mem (.abs addr)) s

/-- ORA absolute,X, 0x1D (R174). -/
def execOraAbsx (addr : Word) (s : State) : Result :=
  logicToA (· ||| ·) (.mem (.absx addr)) s

/-- ORA absolute,Y, 0x19 (R174). -/
def execOraAbsy (addr : Word) (s : State) : Result :=
  logicToA (· ||| ·) (.mem (.absy addr)) s

/-- ORA indirect,X, 0x01 (R174). -/
def execOraIndx (z : Byte) (s : State) : Result :=
  logicToA (· ||| ·) (.mem (.indx z)) s

/-- ORA indirect,Y, 0x11 (R174). -/
def execOraIndy (z : Byte) (s : State) : Result :=
  logicToA (· ||| ·) (.mem (.indy z)) s

/-- EOR immediate, 0x49 (R175). -/
def execEorImm (v : Byte) (s : State) : Result :=
  logicToA (· ^^^ ·) (.imm v) s

/-- EOR zero-page, 0x45 (R175). -/
def execEorZp (z : Byte) (s : State) : Result :=
  logicToA (· ^^^ ·) (.mem (.zp z)) s

/-- EOR zero-page,X, 0x55 (R175). -/
def execEorZpx (z : Byte) (s : State) : Result :=
  logicToA (· ^^^ ·) (.mem (.zpx z)) s

/-- EOR absolute, 0x4D (R175). -/
def execEorAbs (addr : Word) (s : State) : Result :=
  logicToA (· ^^^ ·) (.mem (.abs addr)) s

/-- EOR absolute,X, 0x5D (R175). -/
def execEorAbsx (addr : Word) (s : State) : Result :=
  logicToA (· ^^^ ·) (.mem (.absx addr)) s

/-- EOR absolute,Y, 0x59 (R175). -/
def execEorAbsy (addr : Word) (s : State) : Result :=
  logicToA (· ^^^ ·) (.mem (.absy addr)) s

/-- EOR indirect,X, 0x41 (R175). -/
def execEorIndx (z : Byte) (s : State) : Result :=
  logicToA (· ^^^ ·) (.mem (.indx z)) s

/-- EOR indirect,Y, 0x51 (R175). -/
def execEorIndy (z : Byte) (s : State) : Result :=
  logicToA (· ^^^ ·) (.mem (.indy z)) s

/-- BIT zero-page, 0x24 (R176). -/
def execBitZp (z : Byte) (s : State) : Result :=
  bitTest (.zp z) s

/-- BIT absolute, 0x2C (R176). -/
def execBitAbs (addr : Word) (s : State) : Result :=
  bitTest (.abs addr) s

/-- CMP immediate, 0xC9 (R177). -/
def execCmpImm (v : Byte) (s : State) : Result :=
  compareReg .a (.imm v) s

/-- CMP zero-page, 0xC5 (R177). -/
def execCmpZp (z : Byte) (s : State) : Result :=
  compareReg .a (.mem (.zp z)) s

/-- CMP zero-page,X, 0xD5 (R177). -/
def execCmpZpx (z : Byte) (s : State) : Result :=
  compareReg .a (.mem (.zpx z)) s

/-- CMP absolute, 0xCD (R177). -/
def execCmpAbs (addr : Word) (s : State) : Result :=
  compareReg .a (.mem (.abs addr)) s

/-- CMP absolute,X, 0xDD (R177). -/
def execCmpAbsx (addr : Word) (s : State) : Result :=
  compareReg .a (.mem (.absx addr)) s

/-- CMP absolute,Y, 0xD9 (R177). -/
def execCmpAbsy (addr : Word) (s : State) : Result :=
  compareReg .a (.mem (.absy addr)) s

/-- CMP indirect,X, 0xC1 (R177). -/
def execCmpIndx (z : Byte) (s : State) : Result :=
  compareReg .a (.mem (.indx z)) s

/-- CMP indirect,Y, 0xD1 (R177). -/
def execCmpIndy (z : Byte) (s : State) : Result :=
  compareReg .a (.mem (.indy z)) s

/-- CPX immediate, 0xE0 (R178). -/
def execCpxImm (v : Byte) (s : State) : Result :=
  compareReg .x (.imm v) s

/-- CPX zero-page, 0xE4 (R178). -/
def execCpxZp (z : Byte) (s : State) : Result :=
  compareReg .x (.mem (.zp z)) s

/-- CPX absolute, 0xEC (R178). -/
def execCpxAbs (addr : Word) (s : State) : Result :=
  compareReg .x (.mem (.abs addr)) s

/-- CPY immediate, 0xC0 (R179). -/
def execCpyImm (v : Byte) (s : State) : Result :=
  compareReg .y (.imm v) s

/-- CPY zero-page, 0xC4 (R179). -/
def execCpyZp (z : Byte) (s : State) : Result :=
  compareReg .y (.mem (.zp z)) s

/-- CPY absolute, 0xCC (R179). -/
def execCpyAbs (addr : Word) (s : State) : Result :=
  compareReg .y (.mem (.abs addr)) s

/-- INC zero-page, 0xE6 (R180). -/
def execIncZp (z : Byte) (s : State) : Result :=
  stepMemory 1 (.zp z) s

/-- INC zero-page,X, 0xF6 (R180). -/
def execIncZpx (z : Byte) (s : State) : Result :=
  stepMemory 1 (.zpx z) s

/-- INC absolute, 0xEE (R180). -/
def execIncAbs (addr : Word) (s : State) : Result :=
  stepMemory 1 (.abs addr) s

/-- INC absolute,X, 0xFE (R180). -/
def execIncAbsx (addr : Word) (s : State) : Result :=
  stepMemory 1 (.absx addr) s

/-- DEC zero-page, 0xC6 (R181). -/
def execDecZp (z : Byte) (s : State) : Result :=
  stepMemory (-1) (.zp z) s

/-- DEC zero-page,X, 0xD6 (R181). -/
def execDecZpx (z : Byte) (s : State) : Result :=
  stepMemory (-1) (.zpx z) s

/-- DEC absolute, 0xCE (R181). -/
def execDecAbs (addr : Word) (s : State) : Result :=
  stepMemory (-1) (.abs addr) s

/-- DEC absolute,X, 0xDE (R181). -/
def execDecAbsx (addr : Word) (s : State) : Result :=
  stepMemory (-1) (.absx addr) s

/-- INX implied, 0xE8 (R182). -/
def execInx (s : State) : Result :=
  stepReg .x 1 s

/-- INY implied, 0xC8 (R183). -/
def execIny (s : State) : Result :=
  stepReg .y 1 s

/-- DEX implied, 0xCA (R184). -/
def execDex (s : State) : Result :=
  stepReg .x (-1) s

/-- DEY implied, 0x88 (R185). -/
def execDey (s : State) : Result :=
  stepReg .y (-1) s

end Sys2Proof.Machine
end

