-- ==== Sys2Proof/Machine/Control.lean ====
section
/-! DEFINITION. Jumps, subroutine call and return, conditional branches (44_control_flow.md, R210 to R222).
On entry `PC` is `pc0`, the address just past the opcode byte (R120). -/

namespace Sys2Proof.Machine

/-- A conditional branch (R213), with `PC` at `pc0`: taken when the flag has the value named. -/
def branchIf (f : Flag) (want : Bool) (rel : Byte) (s : State) : Result :=
  if s.flag f = want then .next (s.setPc (branchTarget s.pc rel)) else .next s

/-- JMP absolute, 0x4C (R210). -/
def execJmpAbs (addr : Word) (s : State) : Result :=
  .next (s.setPc addr)

/-- JMP indirect, 0x6C (R210). -/
def execJmpInd (ptr : Word) (s : State) : Result :=
  finish (andThen (indirectTarget ptr s) fun target s1 => .ok (s1.setPc target))

/-- JSR absolute, 0x20 (R211). -/
def execJsr (addr : Word) (s : State) : Result :=
  .next ((pushWord (s.pc + 1) s).setPc addr)

/-- RTS implied, 0x60 (R212). -/
def execRts (s : State) : Result :=
  let (ret, s1) := pullWord s
  .next (s1.setPc (ret + 1))

/-- BCC relative, 0x90 (R214). -/
def execBcc (rel : Byte) (s : State) : Result :=
  branchIf .c false rel s

/-- BCS relative, 0xB0 (R215). -/
def execBcs (rel : Byte) (s : State) : Result :=
  branchIf .c true rel s

/-- BEQ relative, 0xF0 (R216). -/
def execBeq (rel : Byte) (s : State) : Result :=
  branchIf .z true rel s

/-- BNE relative, 0xD0 (R217). -/
def execBne (rel : Byte) (s : State) : Result :=
  branchIf .z false rel s

/-- BMI relative, 0x30 (R218). -/
def execBmi (rel : Byte) (s : State) : Result :=
  branchIf .n true rel s

/-- BPL relative, 0x10 (R219). -/
def execBpl (rel : Byte) (s : State) : Result :=
  branchIf .n false rel s

/-- BVC relative, 0x50 (R220). -/
def execBvc (rel : Byte) (s : State) : Result :=
  branchIf .v false rel s

/-- BVS relative, 0x70 (R221). -/
def execBvs (rel : Byte) (s : State) : Result :=
  branchIf .v true rel s

end Sys2Proof.Machine
end

