-- ==== Sys2Proof/Machine/LoadStore.lean ====
section
/-! DEFINITION. Loads, stores and register transfers (41_load_store_transfer.md, R150 to R161). -/

namespace Sys2Proof.Machine

/-- A load (R150 to R152): the register takes the operand, Z and N follow it. -/
def loadReg (r : Reg) (src : Source) (s : State) : Result :=
  finish (andThen (src.read s) fun m s1 => .ok ((s1.setReg r m).updateZN m))

/-- A store (R153 to R155): one write of the register, no read, no flag. -/
def storeReg (r : Reg) (mode : AddrMode) (s : State) : Result :=
  finish (andThen (effAddr mode s) fun ea s1 => busWrite ea (s1.reg r) s1)

/-- A transfer that sets Z and N (R156 to R160). -/
def transferReg (src dst : Reg) (s : State) : Result :=
  .next ((s.setReg dst (s.reg src)).updateZN (s.reg src))

/-- LDA immediate, 0xA9 (R150). -/
def execLdaImm (v : Byte) (s : State) : Result :=
  loadReg .a (.imm v) s

/-- LDA zero-page, 0xA5 (R150). -/
def execLdaZp (z : Byte) (s : State) : Result :=
  loadReg .a (.mem (.zp z)) s

/-- LDA zero-page,X, 0xB5 (R150). -/
def execLdaZpx (z : Byte) (s : State) : Result :=
  loadReg .a (.mem (.zpx z)) s

/-- LDA absolute, 0xAD (R150). -/
def execLdaAbs (addr : Word) (s : State) : Result :=
  loadReg .a (.mem (.abs addr)) s

/-- LDA absolute,X, 0xBD (R150). -/
def execLdaAbsx (addr : Word) (s : State) : Result :=
  loadReg .a (.mem (.absx addr)) s

/-- LDA absolute,Y, 0xB9 (R150). -/
def execLdaAbsy (addr : Word) (s : State) : Result :=
  loadReg .a (.mem (.absy addr)) s

/-- LDA indirect,X, 0xA1 (R150). -/
def execLdaIndx (z : Byte) (s : State) : Result :=
  loadReg .a (.mem (.indx z)) s

/-- LDA indirect,Y, 0xB1 (R150). -/
def execLdaIndy (z : Byte) (s : State) : Result :=
  loadReg .a (.mem (.indy z)) s

/-- LDX immediate, 0xA2 (R151). -/
def execLdxImm (v : Byte) (s : State) : Result :=
  loadReg .x (.imm v) s

/-- LDX zero-page, 0xA6 (R151). -/
def execLdxZp (z : Byte) (s : State) : Result :=
  loadReg .x (.mem (.zp z)) s

/-- LDX zero-page,Y, 0xB6 (R151). -/
def execLdxZpy (z : Byte) (s : State) : Result :=
  loadReg .x (.mem (.zpy z)) s

/-- LDX absolute, 0xAE (R151). -/
def execLdxAbs (addr : Word) (s : State) : Result :=
  loadReg .x (.mem (.abs addr)) s

/-- LDX absolute,Y, 0xBE (R151). -/
def execLdxAbsy (addr : Word) (s : State) : Result :=
  loadReg .x (.mem (.absy addr)) s

/-- LDY immediate, 0xA0 (R152). -/
def execLdyImm (v : Byte) (s : State) : Result :=
  loadReg .y (.imm v) s

/-- LDY zero-page, 0xA4 (R152). -/
def execLdyZp (z : Byte) (s : State) : Result :=
  loadReg .y (.mem (.zp z)) s

/-- LDY zero-page,X, 0xB4 (R152). -/
def execLdyZpx (z : Byte) (s : State) : Result :=
  loadReg .y (.mem (.zpx z)) s

/-- LDY absolute, 0xAC (R152). -/
def execLdyAbs (addr : Word) (s : State) : Result :=
  loadReg .y (.mem (.abs addr)) s

/-- LDY absolute,X, 0xBC (R152). -/
def execLdyAbsx (addr : Word) (s : State) : Result :=
  loadReg .y (.mem (.absx addr)) s

/-- STA zero-page, 0x85 (R153). -/
def execStaZp (z : Byte) (s : State) : Result :=
  storeReg .a (.zp z) s

/-- STA zero-page,X, 0x95 (R153). -/
def execStaZpx (z : Byte) (s : State) : Result :=
  storeReg .a (.zpx z) s

/-- STA absolute, 0x8D (R153). -/
def execStaAbs (addr : Word) (s : State) : Result :=
  storeReg .a (.abs addr) s

/-- STA absolute,X, 0x9D (R153). -/
def execStaAbsx (addr : Word) (s : State) : Result :=
  storeReg .a (.absx addr) s

/-- STA absolute,Y, 0x99 (R153). -/
def execStaAbsy (addr : Word) (s : State) : Result :=
  storeReg .a (.absy addr) s

/-- STA indirect,X, 0x81 (R153). -/
def execStaIndx (z : Byte) (s : State) : Result :=
  storeReg .a (.indx z) s

/-- STA indirect,Y, 0x91 (R153). -/
def execStaIndy (z : Byte) (s : State) : Result :=
  storeReg .a (.indy z) s

/-- STX zero-page, 0x86 (R154). -/
def execStxZp (z : Byte) (s : State) : Result :=
  storeReg .x (.zp z) s

/-- STX zero-page,Y, 0x96 (R154). -/
def execStxZpy (z : Byte) (s : State) : Result :=
  storeReg .x (.zpy z) s

/-- STX absolute, 0x8E (R154). -/
def execStxAbs (addr : Word) (s : State) : Result :=
  storeReg .x (.abs addr) s

/-- STY zero-page, 0x84 (R155). -/
def execStyZp (z : Byte) (s : State) : Result :=
  storeReg .y (.zp z) s

/-- STY zero-page,X, 0x94 (R155). -/
def execStyZpx (z : Byte) (s : State) : Result :=
  storeReg .y (.zpx z) s

/-- STY absolute, 0x8C (R155). -/
def execStyAbs (addr : Word) (s : State) : Result :=
  storeReg .y (.abs addr) s

/-- TAX implied, 0xAA (R156). -/
def execTax (s : State) : Result :=
  transferReg .a .x s

/-- TAY implied, 0xA8 (R157). -/
def execTay (s : State) : Result :=
  transferReg .a .y s

/-- TXA implied, 0x8A (R158). -/
def execTxa (s : State) : Result :=
  transferReg .x .a s

/-- TYA implied, 0x98 (R159). -/
def execTya (s : State) : Result :=
  transferReg .y .a s

/-- TSX implied, 0xBA (R160). -/
def execTsx (s : State) : Result :=
  transferReg .sp .x s

/-- TXS, no flag: implied, 0x9A (R161). -/
def execTxs (s : State) : Result :=
  .next (s.setReg .sp (s.reg .x))

end Sys2Proof.Machine
end

