-- ==== Sys2Proof/Machine/Shift.lean ====
section
/-! DEFINITION. Shifts and rotates (43_shift_rotate.md, R200 to R204). -/

namespace Sys2Proof.Machine

/-- A shift or rotate by one bit (R200): result and flags from the operand and the old carry. -/
def shiftTarget (op : Byte → Bool → Shifted) (t : Target) (s : State) : Result :=
  finish (t.modify (fun v s1 => (op v (s1.flag .c)).r) (fun v s1 => shiftFlags s1.p (op v (s1.flag .c))) s)

/-- ASL accumulator, 0x0A (R201). -/
def execAslAcc (s : State) : Result :=
  shiftTarget shiftLeft .acc s

/-- ASL zero-page, 0x06 (R201). -/
def execAslZp (z : Byte) (s : State) : Result :=
  shiftTarget shiftLeft (.mem (.zp z)) s

/-- ASL zero-page,X, 0x16 (R201). -/
def execAslZpx (z : Byte) (s : State) : Result :=
  shiftTarget shiftLeft (.mem (.zpx z)) s

/-- ASL absolute, 0x0E (R201). -/
def execAslAbs (addr : Word) (s : State) : Result :=
  shiftTarget shiftLeft (.mem (.abs addr)) s

/-- ASL absolute,X, 0x1E (R201). -/
def execAslAbsx (addr : Word) (s : State) : Result :=
  shiftTarget shiftLeft (.mem (.absx addr)) s

/-- LSR accumulator, 0x4A (R202). -/
def execLsrAcc (s : State) : Result :=
  shiftTarget shiftRight .acc s

/-- LSR zero-page, 0x46 (R202). -/
def execLsrZp (z : Byte) (s : State) : Result :=
  shiftTarget shiftRight (.mem (.zp z)) s

/-- LSR zero-page,X, 0x56 (R202). -/
def execLsrZpx (z : Byte) (s : State) : Result :=
  shiftTarget shiftRight (.mem (.zpx z)) s

/-- LSR absolute, 0x4E (R202). -/
def execLsrAbs (addr : Word) (s : State) : Result :=
  shiftTarget shiftRight (.mem (.abs addr)) s

/-- LSR absolute,X, 0x5E (R202). -/
def execLsrAbsx (addr : Word) (s : State) : Result :=
  shiftTarget shiftRight (.mem (.absx addr)) s

/-- ROL accumulator, 0x2A (R203). -/
def execRolAcc (s : State) : Result :=
  shiftTarget rotateLeft .acc s

/-- ROL zero-page, 0x26 (R203). -/
def execRolZp (z : Byte) (s : State) : Result :=
  shiftTarget rotateLeft (.mem (.zp z)) s

/-- ROL zero-page,X, 0x36 (R203). -/
def execRolZpx (z : Byte) (s : State) : Result :=
  shiftTarget rotateLeft (.mem (.zpx z)) s

/-- ROL absolute, 0x2E (R203). -/
def execRolAbs (addr : Word) (s : State) : Result :=
  shiftTarget rotateLeft (.mem (.abs addr)) s

/-- ROL absolute,X, 0x3E (R203). -/
def execRolAbsx (addr : Word) (s : State) : Result :=
  shiftTarget rotateLeft (.mem (.absx addr)) s

/-- ROR accumulator, 0x6A (R204). -/
def execRorAcc (s : State) : Result :=
  shiftTarget rotateRight .acc s

/-- ROR zero-page, 0x66 (R204). -/
def execRorZp (z : Byte) (s : State) : Result :=
  shiftTarget rotateRight (.mem (.zp z)) s

/-- ROR zero-page,X, 0x76 (R204). -/
def execRorZpx (z : Byte) (s : State) : Result :=
  shiftTarget rotateRight (.mem (.zpx z)) s

/-- ROR absolute, 0x6E (R204). -/
def execRorAbs (addr : Word) (s : State) : Result :=
  shiftTarget rotateRight (.mem (.abs addr)) s

/-- ROR absolute,X, 0x7E (R204). -/
def execRorAbsx (addr : Word) (s : State) : Result :=
  shiftTarget rotateRight (.mem (.absx addr)) s

end Sys2Proof.Machine
end

