-- ==== Sys2Proof/Machine/System.lean ====
section
/-! DEFINITION. Stack, flag, no-operation, break and return-from-interrupt instructions
(45_stack_flags_system.md, R230 to R244). -/

namespace Sys2Proof.Machine

/-- PHA implied, 0x48 (R230). -/
def execPha (s : State) : Result :=
  .next (push s.a s)

/-- PHP, all eight bits as they stand: implied, 0x08 (R231). -/
def execPhp (s : State) : Result :=
  .next (push s.p s)

/-- PLA implied, 0x68 (R232). -/
def execPla (s : State) : Result :=
  let (v, s1) := pull s
  .next ((s1.setA v).updateZN v)

/-- PLP, all eight bits: implied, 0x28 (R233). -/
def execPlp (s : State) : Result :=
  let (v, s1) := pull s
  .next (s1.setP v)

/-- CLC implied, 0x18 (R234). -/
def execClc (s : State) : Result :=
  .next (s.setFlag .c false)

/-- CLD implied, 0xD8 (R235). -/
def execCld (s : State) : Result :=
  .next (s.setFlag .d false)

/-- CLI implied, 0x58 (R236). -/
def execCli (s : State) : Result :=
  .next (s.setFlag .i false)

/-- CLV implied, 0xB8 (R237). -/
def execClv (s : State) : Result :=
  .next (s.setFlag .v false)

/-- SEC implied, 0x38 (R238). -/
def execSec (s : State) : Result :=
  .next (s.setFlag .c true)

/-- SED implied, 0xF8 (R239). -/
def execSed (s : State) : Result :=
  .next (s.setFlag .d true)

/-- SEI implied, 0x78 (R240). -/
def execSei (s : State) : Result :=
  .next (s.setFlag .i true)

/-- NOP implied, 0xEA (R241). -/
def execNop (s : State) : Result :=
  .next s

/-- BRK, the trap: its return address is `a0 + BRK_RET`, and `a0` is `PC - 1` here; implied, 0x00 (R243). -/
def execBrk (s : State) : Result :=
  finish (takeBreak (s.pc - 1 + Config.brkRet) s)

/-- RTI implied, 0x40 (R244). -/
def execRti (s : State) : Result :=
  .next (returnFromBreak s)

end Sys2Proof.Machine
end

