-- ==== Sys2Proof/Machine/Fetch.lean ====
section
/-! DEFINITION. Fetching an instruction's bytes through the bus (R120, R135), and placing an instruction's
bytes where the next fetch finds them. -/

namespace Sys2Proof.Machine

/-- What a fetch yields: the instruction and its opcode byte, which the auto-advance looks up. -/
structure Fetched where
  instr : Instr
  op : Byte
  deriving DecidableEq, Repr

/-- `n` bytes from `addr` upwards (modulo 65536), each one bus read, in order (R135). -/
def readBytes : Nat → Word → State → Except Fault (List Byte × State)
  | 0, _, s => .ok ([], s)
  | n + 1, addr, s =>
    andThen (busRead addr s) fun b s1 =>
      andThen (readBytes n (addr + 1) s1) fun bs s2 => .ok (b :: bs, s2)

/-- The fetch of R120: read the opcode at `PC`, move `PC` past it, fault if it is not implemented (R108)
before any operand byte is read, then read the operand bytes its format asks for (R101, R102).  The last arm
cannot happen: a byte that has an operand count decodes. -/
def fetch (s : State) : Except Fault (Fetched × State) :=
  andThen (busRead s.pc s) fun op s1 =>
    let s2 := s1.setPc (s.pc + 1)
    match operandCount op with
    | none => .error (.unimplementedOpcode op s.pc)
    | some n =>
      andThen (readBytes n s2.pc s2) fun bs s3 =>
        match decode (op :: bs) with
        | .ok (i, _) => .ok ({ instr := i, op := op }, s3)
        | .error _ => .error (.unimplementedOpcode op s.pc)

/-- Whether a bus address is one byte of plain storage, readable without an effect. -/
def isStorage (addr : Word) : Bool :=
  match regionOf addr with
  | .wram _ => true
  | .cram _ => true
  | .rom _ => true
  | .periph _ => false
  | .bulkCopy => false
  | .stub => false
  | .unmapped => false

/-- One byte of storage set from outside the machine, ROM included: what loading a program does. -/
def placeByte (addr : Word) (v : Byte) (s : State) : State :=
  match regionOf addr with
  | .wram i => s.setWram (Memory.write s.wram i v)
  | .cram i => s.setCram (Memory.write s.cram i v)
  | .rom off => s.setPrg (Memory.write s.prg (s.romIndex off) v)
  | .periph _ => s
  | .bulkCopy => s
  | .stub => s
  | .unmapped => s

/-- Bytes placed from `addr` upwards. -/
def placeBytes : List Byte → Word → State → State
  | [], _, s => s
  | b :: rest, addr, s => placeBytes rest (addr + 1) (placeByte addr b s)

/-- Where an instruction of up to three bytes can be placed for the next fetch: at `PC` if the three bytes
there are storage, else at address 0. -/
def placeFor (s : State) : Word :=
  if isStorage s.pc && isStorage (s.pc + 1) && isStorage (s.pc + 2) then s.pc else 0

end Sys2Proof.Machine
end

