-- ==== Sys2Proof/Machine/Step.lean ====
section
/-! DEFINITION. One step (R120). -/

namespace Sys2Proof.Machine

/-- `step()` (R120): a faulted machine takes no step and shows its fault again (R43, R260); otherwise the
host's value of `status` arrives (R298), one instruction is fetched and run, and `PC` auto-advances (R122). -/
def step (s : State) : Host.Outcome State Fault Refusal :=
  match s.halted with
  | .faulted f => .fault f
  | .running =>
    match fetch (drawStatus s) with
    | .error f => .fault f
    | .ok (fetched, s1) => autoAdvance fetched.op s1.pc (exec fetched.instr s1)

/-- `s` with the instruction whose bits are `w` (numbered as the opcode table numbers them, the bits from
`nbits` up zero) placed where the next step fetches, as the loading of a program would place it (log entries 3
and 10). -/
def State.withFetchWord (s : State) (nbits w : Nat) : State :=
  placeBytes (tableBytes nbits w) (placeFor s) ((s.setPc (placeFor s)).setHalted .running)

end Sys2Proof.Machine
end

