-- ==== Sys2Proof/Machine/HostMoves.lean ====
section
/-! DEFINITION. What the host does between steps (70_reset_and_hazards.md, R291 to R298): the cartridge file's
checks, `load`, `reset`, driving `status`, and the machine after each of these moves and after a step. -/

namespace Sys2Proof.Machine

/-- What the host hands to `load` (R291): program and graphics bytes. -/
structure Cartridge where
  prg : List Byte
  chr : List Byte
  deriving DecidableEq, Repr

/-- `INIT_MEM` (R8, D18): the power-on contents, a free input of `load`. -/
structure InitMem where
  stack : Memory
  wram : Memory
  cram : Memory
  oam : Memory
  vram : Memory
  pal : Memory
  deriving DecidableEq, Repr

/-- A store holding the bytes given from index `k` upwards, in canonical form. -/
def Memory.ofBytes : Nat → List Byte → Memory
  | _, [] => []
  | k, b :: rest => Memory.cons k b (Memory.ofBytes (k + 1) rest)

/-- The mapper number of header bytes 6 and 7 (R292, D23). -/
def mapperNumber (b6 b7 : Byte) : Byte := (b7 &&& (0xF0 : Byte)) ||| (b6 >>> 4)

/-- `PRG_LEN <- length(prg)` (R291), if it is a length R294 admits. -/
def prgSizeOf (length : Nat) : Option PrgSize :=
  if length = PrgSize.kib16.bytes then some .kib16
  else if length = PrgSize.kib32.bytes then some .kib32 else none

/-- `CHR_LEN <- length(chr)` (R291), if it is a length R294 admits. -/
def chrSizeOf (length : Nat) : Option ChrSize :=
  if length = ChrSize.none.bytes then some .none
  else if length = ChrSize.kib8.bytes then some .kib8 else none

/-- The bytes after the header and the trainer; byte 6 bit 3 signals a trainer (R292). -/
def cartridgeBody (b6 : Byte) (file : List Byte) : List Byte :=
  file.drop (Config.headerLength + if b6.getLsbD 3 then Config.trainerLength else 0)

/-- The program and graphics bytes cut out of a file's body, if it is long enough. -/
def cutCartridge (prgLength chrLength : Nat) (body : List Byte) : Host.Outcome Cartridge Fault Refusal :=
  if body.length < prgLength + chrLength then .refused .cartridgeTruncated
  else .next { prg := body.take prgLength, chr := (body.drop prgLength).take chrLength }

/-- The checks on a cartridge file (R292, R293), magic first, then the mapper; and its program and graphics
bytes, of the sizes the header gives (R294), which `load` measures. -/
def parseCartridge (file : List Byte) : Host.Outcome Cartridge Fault Refusal :=
  if file.take 4 ≠ Config.magic then .fault .badMagic
  else
    match file.drop 4 with
    | prgUnits :: chrUnits :: b6 :: b7 :: _ =>
      if mapperNumber b6 b7 ≠ Config.directMapper then .fault (.unsupportedMapper (mapperNumber b6 b7))
      else cutCartridge (16384 * prgUnits.toNat) (8192 * chrUnits.toNat) (cartridgeBody b6 file)
    | _ => .refused .cartridgeTruncated

/-- The CPU registers zeroed, the run status running, `PC` from the reset vector (R290, R295, R296): the
common end of `load` and `reset()`. -/
def seedRegisters (s : State) : Result :=
  finish (andThen
    (memRead16 Config.resetVector
      (((((((s.setA 0).setX 0).setY 0).setSp 0).setP 0)).setHalted .running))
    fun target s1 => .ok (s1.setPc target))

/-- The state `load` has before `PC` is seeded (R291): the cartridge's bytes and measured sizes, `INIT_MEM`, every
register zero. -/
def installed (rom : Cartridge) (prgSize : PrgSize) (chrSize : ChrSize) (init : InitMem)
    (statusIn : List Byte) : State :=
  { State.reset with
    prg := Memory.ofBytes 0 rom.prg
    prgSize := prgSize
    chr := Memory.ofBytes 0 rom.chr
    chrSize := chrSize
    stack := init.stack
    wram := init.wram
    cram := init.cram
    oam := init.oam
    vram := init.vram
    pal := init.pal
    statusIn := statusIn }

/-- `load(rom)` (R291), with `INIT_MEM` and the `status` values the host will supply as its free inputs
(R8).  It measures the program and graphics bytes and refuses any length R294 does not admit. -/
def load (rom : Cartridge) (init : InitMem) (statusIn : List Byte) : Result :=
  match prgSizeOf rom.prg.length, chrSizeOf rom.chr.length with
  | some prgSize, some chrSize => seedRegisters (installed rom prgSize chrSize init statusIn)
  | _, _ => .refused (.cartridgeSize rom.prg.length rom.chr.length)

/-- `load` from a cartridge file: its load errors are those of R293, raised before anything is installed. -/
def loadFile (file : List Byte) (init : InitMem) (statusIn : List Byte) : Result :=
  match parseCartridge file with
  | .next rom => load rom init statusIn
  | .fault f => .fault f
  | .refused r => .refused r

/-- `reset()` (R295): memories and peripheral registers stay (D22). -/
def hostReset (s : State) : Result := seedRegisters s

/-- The host sets `status` between steps (R298). -/
def driveStatus (v : Byte) (s : State) : State := s.setStatus v

/-- The machine the host finds after a move that answered `r`.  After a fault the run status is `faulted` (R43,
R260), whether a step raised it or a load (R293), and every other field is whatever `unknown` holds, since R260
leaves it undefined; after a refusal no rule applies and the whole machine is `unknown` (log entry 5).  A claim
holds for every `unknown`. -/
def settle (unknown : State) (r : Result) : State :=
  match r with
  | .next t => t
  | .fault f => unknown.setHalted (.faulted f)
  | .refused _ => unknown

/-- `unknown` with the cartridge of `s`, which no step can change (R30, R31). -/
def keepCartridge (unknown s : State) : State :=
  { unknown with prg := s.prg, prgSize := s.prgSize, chr := s.chr, chrSize := s.chrSize }

/-- The host's moves that change the machine (R297, R298), a load from bytes or from a cartridge file. -/
inductive HostMove where
  | load (rom : Cartridge) (init : InitMem) (statusIn : List Byte)
  | loadFile (file : List Byte) (init : InitMem) (statusIn : List Byte)
  | reset
  | step
  | driveStatus (v : Byte)
  deriving DecidableEq, Repr

/-- What a move answers on the machine `s`: a load starts anew from its own inputs (R291), the others go on from
`s`. -/
def HostMove.answer (s : State) : HostMove → Result
  | .load rom init statusIn => Sys2Proof.Machine.load rom init statusIn
  | .loadFile file init statusIn => Sys2Proof.Machine.loadFile file init statusIn
  | .reset => hostReset s
  | .step => Sys2Proof.Machine.step s
  | .driveStatus v => .next (Sys2Proof.Machine.driveStatus v s)

/-- The machine after one move of the host.  A load that faults leaves it faulted, so that no step is possible
(R293) until `load` or `reset` (R260); what a failed load leaves of the cartridge is unknown too. -/
def hostMove (unknown : State) (m : HostMove) (s : State) : State :=
  match m with
  | .step => settle (keepCartridge unknown s) (m.answer s)
  | .load _ _ _ => settle unknown (m.answer s)
  | .loadFile _ _ _ => settle unknown (m.answer s)
  | .reset => settle unknown (m.answer s)
  | .driveStatus _ => settle unknown (m.answer s)

end Sys2Proof.Machine
end

