-- ==== Sys2Proof/Safety.lean ====
section
/-! DEFINITION. The vocabulary of the claims: one byte of any store, the canonical state, which addresses can
be read and written, what a transition leaves unchanged, and which instruction has which shape, with its opcode
byte and operand as R104 lists them. -/

namespace Sys2Proof.Machine

/-! ### Bytes and the canonical state -/

/-- The eight byte stores (R27 to R31, R36, R40, R41). -/
inductive Store where
  | stack | wram | cram | prg | chr | oam | vram | pal
  deriving DecidableEq, Repr

/-- A store of a state. -/
def State.store (s : State) : Store → Memory
  | .stack => s.stack
  | .wram => s.wram
  | .cram => s.cram
  | .prg => s.prg
  | .chr => s.chr
  | .oam => s.oam
  | .vram => s.vram
  | .pal => s.pal

/-- The size of a store: R27 to R31, R36, R40, R41. -/
def State.sizeOf (s : State) : Store → Nat
  | .stack => Config.stackSize
  | .wram => Config.wramSize
  | .cram => Config.cramSize
  | .prg => s.prgSize.bytes
  | .chr => s.chrSize.bytes
  | .oam => Config.oamSize
  | .vram => Config.vramSize
  | .pal => Config.palSize

/-- One byte of one store. -/
def State.byte (s : State) (st : Store) (i : Nat) : Byte := Memory.read (s.store st) i

/-- Every store is in canonical form and inside its size. -/
def State.wf (s : State) : Bool :=
  Memory.wf Config.stackSize s.stack && Memory.wf Config.wramSize s.wram &&
  Memory.wf Config.cramSize s.cram && Memory.wf s.prgSize.bytes s.prg &&
  Memory.wf s.chrSize.bytes s.chr && Memory.wf Config.oamSize s.oam &&
  Memory.wf Config.vramSize s.vram && Memory.wf Config.palSize s.pal

/-- The same for the power-on contents given to `load`. -/
def InitMem.wf (m : InitMem) : Bool :=
  Memory.wf Config.stackSize m.stack && Memory.wf Config.wramSize m.wram &&
  Memory.wf Config.cramSize m.cram && Memory.wf Config.oamSize m.oam &&
  Memory.wf Config.vramSize m.vram && Memory.wf Config.palSize m.pal

/-- A cartridge whose program and graphics bytes have lengths R294 admits. -/
def Cartridge.sized (c : Cartridge) : Prop :=
  (c.prg.length = 16384 ∨ c.prg.length = 32768) ∧ (c.chr.length = 0 ∨ c.chr.length = 8192)

/-- Where a cartridge file's program bytes begin: after the header and, when byte 6 bit 3 is set, the trainer
(R292). -/
def bodyStart (b6 : Byte) : Nat := if b6.getLsbD 3 then 528 else 16

/-! ### Which accesses are answered -/

/-- The video addresses a read of index 7 answers (R82). -/
def VideoReadable (va : Word) (s : State) : Prop :=
  va.toNat < s.chrSize.bytes ∨ (0x2000 ≤ va.toNat ∧ va.toNat ≤ 0x2FFF) ∨
    (0x3F00 ≤ va.toNat ∧ va.toNat ≤ 0x3FFF)

/-- The video addresses a write of index 7 accepts (R83). -/
def VideoWritable (va : Word) : Prop :=
  (0x2000 ≤ va.toNat ∧ va.toNat ≤ 0x2FFF) ∨ (0x3F00 ≤ va.toNat ∧ va.toNat ≤ 0x3FFF)

/-- The bus addresses a read answers (R51, R57, R71, R82). -/
def Readable (a : Word) (s : State) : Prop :=
  a.toNat ≤ 0x1FFF ∨
  (0x2000 ≤ a.toNat ∧ a.toNat ≤ 0x3FFF ∧
    (a.toNat % 8 = 2 ∨ a.toNat % 8 = 4 ∨ (a.toNat % 8 = 7 ∧ VideoReadable s.vaddr s))) ∨
  (0x4000 ≤ a.toNat ∧ a.toNat ≤ 0x4018) ∨ 0x6000 ≤ a.toNat

/-- The values whose page a bulk copy can read whole (R85, R311). -/
def Copyable (v : Byte) : Prop := v.toNat ≤ 0x1F ∨ 0x60 ≤ v.toNat

/-- The bus addresses a write of `v` accepts (R51, R56, R57, R75, R83, R85). -/
def Writable (a : Word) (v : Byte) (s : State) : Prop :=
  a.toNat ≤ 0x1FFF ∨
  (0x2000 ≤ a.toNat ∧ a.toNat ≤ 0x3FFF ∧
    (a.toNat % 8 ≠ 2 ∧ (a.toNat % 8 = 7 → VideoWritable s.vaddr))) ∨
  (0x4000 ≤ a.toNat ∧ a.toNat ≤ 0x4018 ∧ (a.toNat = 0x4014 → Copyable v)) ∨
  (0x6000 ≤ a.toNat ∧ a.toNat ≤ 0x7FFF)

/-- Whether a bus write at `a` stores to byte `i` of store `st` (R61, R79, R83, R85). -/
def storesTo (a : Word) (s : State) (st : Store) (i : Nat) : Prop :=
  match regionOf a with
  | .wram k => st = .wram ∧ i = k
  | .cram k => st = .cram ∧ i = k
  | .periph 4 => st = .oam ∧ i = s.oamAddr.toNat
  | .periph 7 =>
    if s.vaddr.toNat ≤ 0x2FFF then st = .vram ∧ i = (s.vaddr.toNat - 0x2000) % 2048
    else st = .pal ∧ i = s.vaddr.toNat % 32
  | .periph _ => False
  | .bulkCopy => st = .oam
  | .stub => False
  | .unmapped => False
  | .rom _ => False

/-! ### What stays the same -/

/-- Every named register but those listed is unchanged. -/
def KeepsRegs (except : List Reg) (s t : State) : Prop := ∀ r, r ∉ except → t.reg r = s.reg r

/-- Every one of the eight bits of `P` but those listed is unchanged. -/
def KeepsFlags (except : List Flag) (s t : State) : Prop := ∀ f, f ∉ except → t.flag f = s.flag f

/-- Every byte of every store is unchanged. -/
def KeepsBytes (s t : State) : Prop := ∀ st i, t.byte st i = s.byte st i

/-- Every byte is unchanged but byte `i` of store `st`. -/
def KeepsBytesBut (st : Store) (i : Nat) (s t : State) : Prop :=
  ∀ st' i', ¬(st' = st ∧ i' = i) → t.byte st' i' = s.byte st' i'

/-- The peripheral registers of R32, R33, R35, R37 and R38 are unchanged. -/
def KeepsPeriph (s t : State) : Prop :=
  t.ctrl = s.ctrl ∧ t.mask = s.mask ∧ t.oamAddr = s.oamAddr ∧ t.scrollX = s.scrollX ∧
    t.scrollY = s.scrollY ∧ t.vaddr = s.vaddr

/-- What no instruction touches: the status byte, the cartridge's sizes, the run status, the host's input. -/
def KeepsRun (s t : State) : Prop :=
  t.status = s.status ∧ t.prgSize = s.prgSize ∧ t.chrSize = s.chrSize ∧ t.halted = s.halted ∧
    t.statusIn = s.statusIn

/-- Nothing outside the CPU's registers changes but perhaps the write toggle. -/
def KeepsRest (s t : State) : Prop := KeepsBytes s t ∧ KeepsPeriph s t ∧ KeepsRun s t

/-- Z and N follow an 8-bit result given as a number (R137). -/
def FollowsZN (v : Nat) (t : State) : Prop := t.flag .z = decide (v = 0) ∧ t.flag .n = decide (128 ≤ v)

/-- C as the number 0 or 1. -/
def State.carry (s : State) : Nat := carryNat (s.flag .c)

/-- The bytes the two-byte words of the stack array and of memory stand for (R64). -/
def wordOf (hi lo : Byte) : Nat := 256 * hi.toNat + lo.toNat

/-! ### The shapes of the instructions -/

/-- LDA, LDX, LDY (R150 to R152): opcode, register, operand. -/
inductive LoadForm : Instr → Byte → Reg → Source → Prop where
  | ldaImm (v : Byte) : LoadForm (.ldaImm v) 0xA9 .a (.imm v)
  | ldaZp (z : Byte) : LoadForm (.ldaZp z) 0xA5 .a (.mem (.zp z))
  | ldaZpx (z : Byte) : LoadForm (.ldaZpx z) 0xB5 .a (.mem (.zpx z))
  | ldaAbs (addr : Word) : LoadForm (.ldaAbs addr) 0xAD .a (.mem (.abs addr))
  | ldaAbsx (addr : Word) : LoadForm (.ldaAbsx addr) 0xBD .a (.mem (.absx addr))
  | ldaAbsy (addr : Word) : LoadForm (.ldaAbsy addr) 0xB9 .a (.mem (.absy addr))
  | ldaIndx (z : Byte) : LoadForm (.ldaIndx z) 0xA1 .a (.mem (.indx z))
  | ldaIndy (z : Byte) : LoadForm (.ldaIndy z) 0xB1 .a (.mem (.indy z))
  | ldxImm (v : Byte) : LoadForm (.ldxImm v) 0xA2 .x (.imm v)
  | ldxZp (z : Byte) : LoadForm (.ldxZp z) 0xA6 .x (.mem (.zp z))
  | ldxZpy (z : Byte) : LoadForm (.ldxZpy z) 0xB6 .x (.mem (.zpy z))
  | ldxAbs (addr : Word) : LoadForm (.ldxAbs addr) 0xAE .x (.mem (.abs addr))
  | ldxAbsy (addr : Word) : LoadForm (.ldxAbsy addr) 0xBE .x (.mem (.absy addr))
  | ldyImm (v : Byte) : LoadForm (.ldyImm v) 0xA0 .y (.imm v)
  | ldyZp (z : Byte) : LoadForm (.ldyZp z) 0xA4 .y (.mem (.zp z))
  | ldyZpx (z : Byte) : LoadForm (.ldyZpx z) 0xB4 .y (.mem (.zpx z))
  | ldyAbs (addr : Word) : LoadForm (.ldyAbs addr) 0xAC .y (.mem (.abs addr))
  | ldyAbsx (addr : Word) : LoadForm (.ldyAbsx addr) 0xBC .y (.mem (.absx addr))

/-- STA, STX, STY (R153 to R155): opcode, register, address mode. -/
inductive StoreForm : Instr → Byte → Reg → AddrMode → Prop where
  | staZp (z : Byte) : StoreForm (.staZp z) 0x85 .a (.zp z)
  | staZpx (z : Byte) : StoreForm (.staZpx z) 0x95 .a (.zpx z)
  | staAbs (addr : Word) : StoreForm (.staAbs addr) 0x8D .a (.abs addr)
  | staAbsx (addr : Word) : StoreForm (.staAbsx addr) 0x9D .a (.absx addr)
  | staAbsy (addr : Word) : StoreForm (.staAbsy addr) 0x99 .a (.absy addr)
  | staIndx (z : Byte) : StoreForm (.staIndx z) 0x81 .a (.indx z)
  | staIndy (z : Byte) : StoreForm (.staIndy z) 0x91 .a (.indy z)
  | stxZp (z : Byte) : StoreForm (.stxZp z) 0x86 .x (.zp z)
  | stxZpy (z : Byte) : StoreForm (.stxZpy z) 0x96 .x (.zpy z)
  | stxAbs (addr : Word) : StoreForm (.stxAbs addr) 0x8E .x (.abs addr)
  | styZp (z : Byte) : StoreForm (.styZp z) 0x84 .y (.zp z)
  | styZpx (z : Byte) : StoreForm (.styZpx z) 0x94 .y (.zpx z)
  | styAbs (addr : Word) : StoreForm (.styAbs addr) 0x8C .y (.abs addr)

/-- TAX, TAY, TXA, TYA, TSX (R156 to R160): opcode, source, destination. -/
inductive TransferForm : Instr → Byte → Reg → Reg → Prop where
  | tax : TransferForm .tax 0xAA .a .x
  | tay : TransferForm .tay 0xA8 .a .y
  | txa : TransferForm .txa 0x8A .x .a
  | tya : TransferForm .tya 0x98 .y .a
  | tsx : TransferForm .tsx 0xBA .sp .x

/-- ADC (R171): opcode, operand. -/
inductive AdcForm : Instr → Byte → Source → Prop where
  | adcImm (v : Byte) : AdcForm (.adcImm v) 0x69 (.imm v)
  | adcZp (z : Byte) : AdcForm (.adcZp z) 0x65 (.mem (.zp z))
  | adcZpx (z : Byte) : AdcForm (.adcZpx z) 0x75 (.mem (.zpx z))
  | adcAbs (addr : Word) : AdcForm (.adcAbs addr) 0x6D (.mem (.abs addr))
  | adcAbsx (addr : Word) : AdcForm (.adcAbsx addr) 0x7D (.mem (.absx addr))
  | adcAbsy (addr : Word) : AdcForm (.adcAbsy addr) 0x79 (.mem (.absy addr))
  | adcIndx (z : Byte) : AdcForm (.adcIndx z) 0x61 (.mem (.indx z))
  | adcIndy (z : Byte) : AdcForm (.adcIndy z) 0x71 (.mem (.indy z))

/-- SBC (R172): opcode, operand. -/
inductive SbcForm : Instr → Byte → Source → Prop where
  | sbcImm (v : Byte) : SbcForm (.sbcImm v) 0xE9 (.imm v)
  | sbcZp (z : Byte) : SbcForm (.sbcZp z) 0xE5 (.mem (.zp z))
  | sbcZpx (z : Byte) : SbcForm (.sbcZpx z) 0xF5 (.mem (.zpx z))
  | sbcAbs (addr : Word) : SbcForm (.sbcAbs addr) 0xED (.mem (.abs addr))
  | sbcAbsx (addr : Word) : SbcForm (.sbcAbsx addr) 0xFD (.mem (.absx addr))
  | sbcAbsy (addr : Word) : SbcForm (.sbcAbsy addr) 0xF9 (.mem (.absy addr))
  | sbcIndx (z : Byte) : SbcForm (.sbcIndx z) 0xE1 (.mem (.indx z))
  | sbcIndy (z : Byte) : SbcForm (.sbcIndy z) 0xF1 (.mem (.indy z))

/-- AND (R173): opcode, operand. -/
inductive AndForm : Instr → Byte → Source → Prop where
  | andImm (v : Byte) : AndForm (.andImm v) 0x29 (.imm v)
  | andZp (z : Byte) : AndForm (.andZp z) 0x25 (.mem (.zp z))
  | andZpx (z : Byte) : AndForm (.andZpx z) 0x35 (.mem (.zpx z))
  | andAbs (addr : Word) : AndForm (.andAbs addr) 0x2D (.mem (.abs addr))
  | andAbsx (addr : Word) : AndForm (.andAbsx addr) 0x3D (.mem (.absx addr))
  | andAbsy (addr : Word) : AndForm (.andAbsy addr) 0x39 (.mem (.absy addr))
  | andIndx (z : Byte) : AndForm (.andIndx z) 0x21 (.mem (.indx z))
  | andIndy (z : Byte) : AndForm (.andIndy z) 0x31 (.mem (.indy z))

/-- ORA (R174): opcode, operand. -/
inductive OraForm : Instr → Byte → Source → Prop where
  | oraImm (v : Byte) : OraForm (.oraImm v) 0x09 (.imm v)
  | oraZp (z : Byte) : OraForm (.oraZp z) 0x05 (.mem (.zp z))
  | oraZpx (z : Byte) : OraForm (.oraZpx z) 0x15 (.mem (.zpx z))
  | oraAbs (addr : Word) : OraForm (.oraAbs addr) 0x0D (.mem (.abs addr))
  | oraAbsx (addr : Word) : OraForm (.oraAbsx addr) 0x1D (.mem (.absx addr))
  | oraAbsy (addr : Word) : OraForm (.oraAbsy addr) 0x19 (.mem (.absy addr))
  | oraIndx (z : Byte) : OraForm (.oraIndx z) 0x01 (.mem (.indx z))
  | oraIndy (z : Byte) : OraForm (.oraIndy z) 0x11 (.mem (.indy z))

/-- EOR (R175): opcode, operand. -/
inductive EorForm : Instr → Byte → Source → Prop where
  | eorImm (v : Byte) : EorForm (.eorImm v) 0x49 (.imm v)
  | eorZp (z : Byte) : EorForm (.eorZp z) 0x45 (.mem (.zp z))
  | eorZpx (z : Byte) : EorForm (.eorZpx z) 0x55 (.mem (.zpx z))
  | eorAbs (addr : Word) : EorForm (.eorAbs addr) 0x4D (.mem (.abs addr))
  | eorAbsx (addr : Word) : EorForm (.eorAbsx addr) 0x5D (.mem (.absx addr))
  | eorAbsy (addr : Word) : EorForm (.eorAbsy addr) 0x59 (.mem (.absy addr))
  | eorIndx (z : Byte) : EorForm (.eorIndx z) 0x41 (.mem (.indx z))
  | eorIndy (z : Byte) : EorForm (.eorIndy z) 0x51 (.mem (.indy z))

/-- BIT (R176): opcode, address mode. -/
inductive BitForm : Instr → Byte → AddrMode → Prop where
  | bitZp (z : Byte) : BitForm (.bitZp z) 0x24 (.zp z)
  | bitAbs (addr : Word) : BitForm (.bitAbs addr) 0x2C (.abs addr)

/-- CMP, CPX, CPY (R177 to R179): opcode, register, operand. -/
inductive CompareForm : Instr → Byte → Reg → Source → Prop where
  | cmpImm (v : Byte) : CompareForm (.cmpImm v) 0xC9 .a (.imm v)
  | cmpZp (z : Byte) : CompareForm (.cmpZp z) 0xC5 .a (.mem (.zp z))
  | cmpZpx (z : Byte) : CompareForm (.cmpZpx z) 0xD5 .a (.mem (.zpx z))
  | cmpAbs (addr : Word) : CompareForm (.cmpAbs addr) 0xCD .a (.mem (.abs addr))
  | cmpAbsx (addr : Word) : CompareForm (.cmpAbsx addr) 0xDD .a (.mem (.absx addr))
  | cmpAbsy (addr : Word) : CompareForm (.cmpAbsy addr) 0xD9 .a (.mem (.absy addr))
  | cmpIndx (z : Byte) : CompareForm (.cmpIndx z) 0xC1 .a (.mem (.indx z))
  | cmpIndy (z : Byte) : CompareForm (.cmpIndy z) 0xD1 .a (.mem (.indy z))
  | cpxImm (v : Byte) : CompareForm (.cpxImm v) 0xE0 .x (.imm v)
  | cpxZp (z : Byte) : CompareForm (.cpxZp z) 0xE4 .x (.mem (.zp z))
  | cpxAbs (addr : Word) : CompareForm (.cpxAbs addr) 0xEC .x (.mem (.abs addr))
  | cpyImm (v : Byte) : CompareForm (.cpyImm v) 0xC0 .y (.imm v)
  | cpyZp (z : Byte) : CompareForm (.cpyZp z) 0xC4 .y (.mem (.zp z))
  | cpyAbs (addr : Word) : CompareForm (.cpyAbs addr) 0xCC .y (.mem (.abs addr))

/-- INC (R180): opcode, address mode. -/
inductive IncForm : Instr → Byte → AddrMode → Prop where
  | incZp (z : Byte) : IncForm (.incZp z) 0xE6 (.zp z)
  | incZpx (z : Byte) : IncForm (.incZpx z) 0xF6 (.zpx z)
  | incAbs (addr : Word) : IncForm (.incAbs addr) 0xEE (.abs addr)
  | incAbsx (addr : Word) : IncForm (.incAbsx addr) 0xFE (.absx addr)

/-- DEC (R181): opcode, address mode. -/
inductive DecForm : Instr → Byte → AddrMode → Prop where
  | decZp (z : Byte) : DecForm (.decZp z) 0xC6 (.zp z)
  | decZpx (z : Byte) : DecForm (.decZpx z) 0xD6 (.zpx z)
  | decAbs (addr : Word) : DecForm (.decAbs addr) 0xCE (.abs addr)
  | decAbsx (addr : Word) : DecForm (.decAbsx addr) 0xDE (.absx addr)

/-- INX, INY, DEX, DEY (R182 to R185): opcode, register, what is added modulo 256. -/
inductive StepRegForm : Instr → Byte → Reg → Nat → Prop where
  | inx : StepRegForm .inx 0xE8 .x 1
  | iny : StepRegForm .iny 0xC8 .y 1
  | dex : StepRegForm .dex 0xCA .x 255
  | dey : StepRegForm .dey 0x88 .y 255

/-- The four one-bit shifts (R201 to R204). -/
inductive ShiftKind where
  | asl | lsr | rol | ror
  deriving DecidableEq, Repr

/-- The result of a shift as a number: `v` is the operand, `c` the old carry as 0 or 1 (R201 to R204). -/
def ShiftKind.result : ShiftKind → Nat → Nat → Nat
  | .asl, v, _ => 2 * v % 256
  | .lsr, v, _ => v / 2
  | .rol, v, c => 2 * v % 256 + c
  | .ror, v, c => v / 2 + 128 * c

/-- The bit shifted out: the top bit to the left, the bottom bit to the right (R201 to R204). -/
def ShiftKind.out : ShiftKind → Nat → Bool
  | .asl, v => decide (128 ≤ v)
  | .rol, v => decide (128 ≤ v)
  | .lsr, v => decide (v % 2 = 1)
  | .ror, v => decide (v % 2 = 1)

/-- ASL, LSR, ROL, ROR (R201 to R204): opcode, kind, what is shifted. -/
inductive ShiftForm : Instr → Byte → ShiftKind → Target → Prop where
  | aslAcc : ShiftForm .aslAcc 0x0A .asl .acc
  | aslZp (z : Byte) : ShiftForm (.aslZp z) 0x06 .asl (.mem (.zp z))
  | aslZpx (z : Byte) : ShiftForm (.aslZpx z) 0x16 .asl (.mem (.zpx z))
  | aslAbs (addr : Word) : ShiftForm (.aslAbs addr) 0x0E .asl (.mem (.abs addr))
  | aslAbsx (addr : Word) : ShiftForm (.aslAbsx addr) 0x1E .asl (.mem (.absx addr))
  | lsrAcc : ShiftForm .lsrAcc 0x4A .lsr .acc
  | lsrZp (z : Byte) : ShiftForm (.lsrZp z) 0x46 .lsr (.mem (.zp z))
  | lsrZpx (z : Byte) : ShiftForm (.lsrZpx z) 0x56 .lsr (.mem (.zpx z))
  | lsrAbs (addr : Word) : ShiftForm (.lsrAbs addr) 0x4E .lsr (.mem (.abs addr))
  | lsrAbsx (addr : Word) : ShiftForm (.lsrAbsx addr) 0x5E .lsr (.mem (.absx addr))
  | rolAcc : ShiftForm .rolAcc 0x2A .rol .acc
  | rolZp (z : Byte) : ShiftForm (.rolZp z) 0x26 .rol (.mem (.zp z))
  | rolZpx (z : Byte) : ShiftForm (.rolZpx z) 0x36 .rol (.mem (.zpx z))
  | rolAbs (addr : Word) : ShiftForm (.rolAbs addr) 0x2E .rol (.mem (.abs addr))
  | rolAbsx (addr : Word) : ShiftForm (.rolAbsx addr) 0x3E .rol (.mem (.absx addr))
  | rorAcc : ShiftForm .rorAcc 0x6A .ror .acc
  | rorZp (z : Byte) : ShiftForm (.rorZp z) 0x66 .ror (.mem (.zp z))
  | rorZpx (z : Byte) : ShiftForm (.rorZpx z) 0x76 .ror (.mem (.zpx z))
  | rorAbs (addr : Word) : ShiftForm (.rorAbs addr) 0x6E .ror (.mem (.abs addr))
  | rorAbsx (addr : Word) : ShiftForm (.rorAbsx addr) 0x7E .ror (.mem (.absx addr))

/-- The eight branches (R214 to R221): opcode, flag, the value that takes it, offset byte. -/
inductive BranchForm : Instr → Byte → Flag → Bool → Byte → Prop where
  | bcc (rel : Byte) : BranchForm (.bcc rel) 0x90 .c false rel
  | bcs (rel : Byte) : BranchForm (.bcs rel) 0xB0 .c true rel
  | beq (rel : Byte) : BranchForm (.beq rel) 0xF0 .z true rel
  | bne (rel : Byte) : BranchForm (.bne rel) 0xD0 .z false rel
  | bmi (rel : Byte) : BranchForm (.bmi rel) 0x30 .n true rel
  | bpl (rel : Byte) : BranchForm (.bpl rel) 0x10 .n false rel
  | bvc (rel : Byte) : BranchForm (.bvc rel) 0x50 .v false rel
  | bvs (rel : Byte) : BranchForm (.bvs rel) 0x70 .v true rel

/-- The flag instructions (R234 to R240): opcode, flag, value. -/
inductive FlagForm : Instr → Byte → Flag → Bool → Prop where
  | clc : FlagForm .clc 0x18 .c false
  | cld : FlagForm .cld 0xD8 .d false
  | cli : FlagForm .cli 0x58 .i false
  | clv : FlagForm .clv 0xB8 .v false
  | sec : FlagForm .sec 0x38 .c true
  | sed : FlagForm .sed 0xF8 .d true
  | sei : FlagForm .sei 0x78 .i true

/-- Which instructions write which flag: the complete list of R25. -/
inductive FlagWriter : Flag → Instr → Prop where
  | load {i op r src f} : LoadForm i op r src → f ∈ [Flag.z, .n] → FlagWriter f i
  | transfer {i op r q f} : TransferForm i op r q → f ∈ [Flag.z, .n] → FlagWriter f i
  | adc {i op src f} : AdcForm i op src → f ∈ [Flag.c, .z, .v, .n] → FlagWriter f i
  | sbc {i op src f} : SbcForm i op src → f ∈ [Flag.c, .z, .v, .n] → FlagWriter f i
  | and {i op src f} : AndForm i op src → f ∈ [Flag.z, .n] → FlagWriter f i
  | ora {i op src f} : OraForm i op src → f ∈ [Flag.z, .n] → FlagWriter f i
  | eor {i op src f} : EorForm i op src → f ∈ [Flag.z, .n] → FlagWriter f i
  | bit {i op mode f} : BitForm i op mode → f ∈ [Flag.z, .v, .n] → FlagWriter f i
  | compare {i op r src f} : CompareForm i op r src → f ∈ [Flag.c, .z, .n] → FlagWriter f i
  | inc {i op mode f} : IncForm i op mode → f ∈ [Flag.z, .n] → FlagWriter f i
  | dec {i op mode f} : DecForm i op mode → f ∈ [Flag.z, .n] → FlagWriter f i
  | stepReg {i op r d f} : StepRegForm i op r d → f ∈ [Flag.z, .n] → FlagWriter f i
  | shift {i op k t f} : ShiftForm i op k t → f ∈ [Flag.c, .z, .n] → FlagWriter f i
  | flagOp {i op f v} : FlagForm i op f v → FlagWriter f i
  | pla {f} : f ∈ [Flag.z, .n] → FlagWriter f .pla
  | plp {f} : FlagWriter f .plp
  | rti {f} : FlagWriter f .rti
  | brk : FlagWriter .b .brk

/-- The instructions that assign `PC`: JMP, JSR, RTS, RTI, BRK and the branches (R122, R222). -/
inductive ControlTransfer : Instr → Prop where
  | jmpAbs (addr) : ControlTransfer (.jmpAbs addr)
  | jmpInd (ptr) : ControlTransfer (.jmpInd ptr)
  | jsr (addr) : ControlTransfer (.jsr addr)
  | rts : ControlTransfer .rts
  | rti : ControlTransfer .rti
  | brk : ControlTransfer .brk
  | branch {i op f v rel} : BranchForm i op f v rel → ControlTransfer i

/-- The instructions that use Push or Pull (R27). -/
inductive StackUser : Instr → Prop where
  | pha : StackUser .pha
  | php : StackUser .php
  | pla : StackUser .pla
  | plp : StackUser .plp
  | jsr (addr) : StackUser (.jsr addr)
  | rts : StackUser .rts
  | brk : StackUser .brk
  | rti : StackUser .rti

/-- The instructions with a data write on the bus: STA, STX, STY, INC, DEC and the memory forms of the
shifts (R262). -/
inductive BusWriter : Instr → AddrMode → Prop where
  | store {i op r mode} : StoreForm i op r mode → BusWriter i mode
  | inc {i op mode} : IncForm i op mode → BusWriter i mode
  | dec {i op mode} : DecForm i op mode → BusWriter i mode
  | shift {i op k mode} : ShiftForm i op k (.mem mode) → BusWriter i mode

/-- The bits of `P` that some instruction other than PHP and BRK reads: C, Z, V, N (R25). -/
def readBits (p : Byte) : Byte := p &&& 0xC3

end Sys2Proof.Machine
end

