-- ==== Sys2Proof/Certificates/Slice0/Obligations.lean ====
section
/-! DEFINITION. The statements for the provers, in the order of the spec's files: encoding, invariants and the
run, the bus, the peripheral register file, operands, stack and flags, the instructions, whole-machine rules,
host moves.  `exec i s` is `execute` of R121, so `s.pc` is `pc0` there, the address just past the opcode byte. -/

open Sys2Proof Sys2Proof.Machine

/-! ### Encoding (30_encoding.md) -/

/-- R101, R102, R104: decoding the bytes of an instruction, whatever follows them, gives it back with every operand
bit. -/
def Obligations.DecodeOfEncodeGivesInstruction : Prop :=
  ∀ (i : Instr) (rest : List Byte), wellFormed i = true → decode (encode i ++ rest) = .ok (i, rest)

/-- R103: what the decoder accepts is a well-formed instruction's own bytes followed by what it leaves over. -/
def Obligations.DecodedBytesAreItsEncoding : Prop :=
  ∀ (bs : List Byte) (i : Instr) (rest : List Byte), decode bs = .ok (i, rest) →
    wellFormed i = true ∧ bs = encode i ++ rest

/-- R104, R111: words written out from the spec's table and examples decode to the instructions they stand for. -/
def Obligations.SpecWordsDecodeAsListed : Prop :=
  decode [0xA9, 0x10] = .ok (.ldaImm 0x10, []) ∧ decode [0xBD, 0x34, 0x12] = .ok (.ldaAbsx 0x1234, []) ∧
  decode [0x91, 0x20] = .ok (.staIndy 0x20, []) ∧ decode [0x96, 0xFF] = .ok (.stxZpy 0xFF, []) ∧
  decode [0xE9, 0xF0] = .ok (.sbcImm 0xF0, []) ∧ decode [0x0A] = .ok (.aslAcc, []) ∧
  decode [0x6C, 0xFF, 0x02] = .ok (.jmpInd 0x02FF, []) ∧ decode [0xD0, 0xFB] = .ok (.bne 0xFB, []) ∧
  decode [0x00] = .ok (.brk, []) ∧ decode [0x02] = .error (.unimplemented 0x02)

/-- R107: the domain of `LEN`, `IMPLEMENTED` and the rows of the opcode map are the same 151 bytes, and the length
`LEN` gives is one more than the operand bytes the format reads. -/
def Obligations.LengthTableInLockStep : Prop :=
  (∀ op : Byte, (opLen op).isSome = Config.implemented op ∧
    (Config.implemented op = true ↔ ∃ r ∈ rows, r.op = op) ∧
    (Config.implemented op = true ↔ ∃ i, (encode i).head? = some op) ∧
    operandCount op = (opLen op).map (fun n => n - 1)) ∧
  ((List.range 256).filter (fun n => Config.implemented (BitVec.ofNat 8 n))).length = 151 ∧ rows.length = 151

/-! ### Invariants and the run (10_state.md, 60_exceptions.md) -/

/-- The state after load and reset has every store canonical, and `reset()` leaves it as it is.  Its memory
contents and sizes are the model's choice (log entries 2 and 3). -/
def Obligations.ResetStateIsCanonical : Prop :=
  State.reset.wf = true ∧ hostReset State.reset = .next State.reset

/-- Every step keeps every store in its canonical form and inside its size (R27 to R31, R36, R40, R41; the form
itself is the model's). -/
def Obligations.StepKeepsStoresCanonical : Prop :=
  ∀ s t : State, s.wf = true → step s = .next t → t.wf = true

/-- R30, R31: no step and no `reset()` changes a byte or the size of program or graphics memory. -/
def Obligations.CartridgeIsImmutable : Prop :=
  ∀ s t : State, step s = .next t ∨ hostReset s = .next t →
    (∀ i, t.byte .prg i = s.byte .prg i) ∧ (∀ i, t.byte .chr i = s.byte .chr i) ∧
      t.prgSize = s.prgSize ∧ t.chrSize = s.chrSize

/-- R43, R260 (contents after a fault undefined: D20; log entry 5): only a running machine takes a step, and it stays
running until a fault.  After a step that faults the machine is faulted, whatever else it holds, and `reset()` puts it
back to running with zeroed registers and `PC` from the unchanged cartridge; after a load that faults it is faulted too;
and a faulted machine shows its fault at every step and stays faulted under every move but `load` and `reset()`. -/
def Obligations.FaultStopsUntilReset : Prop :=
  (∀ s t : State, step s = .next t → s.halted = .running ∧ t.halted = .running) ∧
  (∀ (s unknown : State) (f : Fault), step s = .fault f →
    (hostMove unknown .step s).halted = .faulted f ∧
    ∃ t, hostReset (hostMove unknown .step s) = .next t ∧ t.halted = .running ∧
      t.a = 0 ∧ t.x = 0 ∧ t.y = 0 ∧ t.sp = 0 ∧ t.p = 0 ∧
      t.pc.toNat = wordOf (s.byte .prg (0x7FFD % s.prgSize.bytes)) (s.byte .prg (0x7FFC % s.prgSize.bytes))) ∧
  (∀ (file : List Byte) (init : InitMem) (vs : List Byte) (s unknown : State) (f : Fault),
    loadFile file init vs = .fault f → (hostMove unknown (.loadFile file init vs) s).halted = .faulted f) ∧
  (∀ (s unknown : State) (f : Fault) (v : Byte), s.halted = .faulted f → step s = .fault f ∧
    (hostMove unknown .step s).halted = .faulted f ∧
    (hostMove unknown (.driveStatus v) s).halted = .faulted f)

/-- R120: when the bytes read through the bus from `PC` on are those of a well-formed instruction, the step is that
instruction's `exec`, on the state those reads leave with `PC` just past the opcode, and then the auto-advance.  Before
them the host's value of `status` is drawn (log entry 4). -/
def Obligations.StepRunsTheDecodedInstruction : Prop :=
  ∀ (s s1 : State) (i : Instr) (op : Byte), s.halted = .running → wellFormed i = true →
    (encode i).head? = some op →
    readBytes (encode i).length s.pc (drawStatus s) = .ok (encode i, s1) →
    step s = autoAdvance op (s.pc + 1) (exec i (s1.setPc (s.pc + 1)))

/-- R108: fetching one of the 105 unimplemented bytes faults with the byte and its address. -/
def Obligations.UnimplementedOpcodeFaults : Prop :=
  Config.unimplemented.length = 105 ∧
  ∀ (s s1 : State) (op : Byte), s.halted = .running → busRead s.pc (drawStatus s) = .ok (op, s1) →
    op ∈ Config.unimplemented → step s = .fault (.unimplementedOpcode op s.pc)

/-- R122: only JMP, JSR, RTS, RTI, BRK and the branches assign `PC`; a step whose operation left `PC` at `pc0` ends at the
opcode's address plus `LEN`, and the advance changes nothing else; one that left `pc0` is untouched. -/
def Obligations.StepAdvancesByLength : Prop :=
  ∀ (s s1 u : State) (i : Instr) (op : Byte), s.halted = .running → wellFormed i = true →
    (encode i).head? = some op → readBytes (encode i).length s.pc (drawStatus s) = .ok (encode i, s1) →
    exec i (s1.setPc (s.pc + 1)) = .next u →
    (¬ ControlTransfer i → u.pc = s.pc + 1) ∧
    (u.pc = s.pc + 1 → opLen op = some (encode i).length ∧
      step s = .next (u.setPc (s.pc + BitVec.ofNat 16 (encode i).length))) ∧
    (u.pc ≠ s.pc + 1 → step s = .next u)

/-- R123, an inference the spec marks as its own: a transfer whose target is `pc0` is advanced again, row by row of the
rule's table. -/
def Obligations.TransferToNextByteFallsThrough : Prop :=
  ∀ s : State,
    autoAdvance 0x4C s.pc (exec (.jmpAbs s.pc) s) = .next (s.setPc (s.pc + 2)) ∧
    (∀ (ptr : Word) (s1 : State), indirectTarget ptr s = .ok (s.pc, s1) →
      autoAdvance 0x6C s.pc (exec (.jmpInd ptr) s) = .next (s1.setPc (s.pc + 2))) ∧
    (∃ t, autoAdvance 0x20 s.pc (exec (.jsr s.pc) s) = .next t ∧ t.pc = s.pc + 2 ∧
      wordOf (t.byte .stack s.sp.toNat) (t.byte .stack (s.sp - 1).toNat) = (s.pc + 1).toNat) ∧
    (∀ i op f v, BranchForm i op f v 0xFF → s.flag f = v →
      autoAdvance op s.pc (exec i s) = .next (s.setPc (s.pc + 1))) ∧
    (∀ t, exec .rts s = .next t → t.pc = s.pc → autoAdvance 0x60 s.pc (exec .rts s) = .next t) ∧
    (∀ t, exec .rti s = .next t → t.pc = s.pc → autoAdvance 0x40 s.pc (exec .rti s) = .next t) ∧
    (∀ t, exec .brk s = .next t → t.pc = s.pc → autoAdvance 0x00 s.pc (exec .brk s) = .next t)

/-! ### The bus (20_memory.md) -/

/-- R52, R54 (cartridge RAM in every cartridge: the spec's decision D27): the four addresses a, a + 0x800, a + 0x1000, a + 0x1800 name one byte of work memory: a write through any is
read back through any; cartridge RAM is flat read/write: a write is read back; each write changes its one byte and nothing
else. -/
def Obligations.WritableMemoryReadsBack : Prop :=
  (∀ (a j k : Nat) (v : Byte) (s : State), a < 0x0800 → j < 4 → k < 4 →
    ∃ t, busWrite (BitVec.ofNat 16 (a + 0x0800 * j)) v s = .ok t ∧
      busRead (BitVec.ofNat 16 (a + 0x0800 * k)) t = .ok (v, t) ∧ t.byte .wram a = v ∧
      KeepsBytesBut .wram a s t ∧ KeepsRegs [] s t ∧ KeepsFlags [] s t ∧ KeepsPeriph s t ∧ t.w = s.w ∧
      t.pc = s.pc ∧ KeepsRun s t) ∧
  (∀ (a : Word) (v : Byte) (s : State), 0x6000 ≤ a.toNat → a.toNat ≤ 0x7FFF →
    busRead a s = .ok (s.byte .cram (a.toNat - 0x6000), s) ∧
    ∃ t, busWrite a v s = .ok t ∧ busRead a t = .ok (v, t) ∧
      KeepsBytesBut .cram (a.toNat - 0x6000) s t ∧ KeepsRegs [] s t ∧ KeepsFlags [] s t ∧
      KeepsPeriph s t ∧ t.w = s.w ∧ t.pc = s.pc ∧ KeepsRun s t)

/-- R55 (its modulo is an inference the spec marks as its own, D19): a ROM read answers `prg[(a - 0x8000) mod PRG_LEN]`
and changes nothing; with 16384 bytes the two halves read the same. -/
def Obligations.RomReadsAreMirrored : Prop :=
  ∀ (a : Word) (s : State), 0x8000 ≤ a.toNat →
    busRead a s = .ok (s.byte .prg ((a.toNat - 0x8000) % s.prgSize.bytes), s) ∧
    (s.prgSize = .kib16 → a.toNat ≤ 0xBFFF → busRead (a + 0x4000) s = busRead a s)

/-- R56, R57: a write to cartridge ROM faults as a read-only violation; a read or write of 0x4019 to 0x5FFF faults with the
address and the direction, and no other address faults so. -/
def Obligations.UnmappedAndReadOnlyAddressesFault : Prop :=
  ∀ (a : Word) (v : Byte) (s : State),
    (0x8000 ≤ a.toNat ↔ busWrite a v s = .error (.readOnlyViolation .bus a)) ∧
    ((0x4019 ≤ a.toNat ∧ a.toNat ≤ 0x5FFF) ↔ busRead a s = .error (.unmappedAddress a .read)) ∧
    ((0x4019 ≤ a.toNat ∧ a.toNat ≤ 0x5FFF) ↔ busWrite a v s = .error (.unmappedAddress a .write))

/-- R53, R58: the eight registers repeat every 8 bytes over 0x2000 to 0x3FFF, the register being the address modulo 8; a read
of 0x4000 to 0x4018 answers 0 and changes nothing, 0x4014 included, and a write there other than to 0x4014 changes
nothing. -/
def Obligations.WindowRepeatsAndStubIgnoresWrites : Prop :=
  ∀ (a : Word) (v : Byte) (s : State),
    (0x2000 ≤ a.toNat → a.toNat ≤ 0x3FFF →
      busRead a s = periphRead ((a.toNat - 0x2000) % 8) s ∧
      busWrite a v s = periphWrite ((a.toNat - 0x2000) % 8) v s ∧ (a.toNat - 0x2000) % 8 = a.toNat % 8) ∧
    (0x4000 ≤ a.toNat → a.toNat ≤ 0x4018 →
      busRead a s = .ok (0, s) ∧ (a.toNat ≠ 0x4014 → busWrite a v s = .ok s))

/-- R67, an inference the spec marks as its own: a read changes nothing, but that a read of 0x2002 + 8k clears the
toggle. -/
def Obligations.BusReadClearsOnlyTheToggle : Prop :=
  ∀ (a : Word) (v : Byte) (s t : State), busRead a s = .ok (v, t) →
    ((∃ k, k < 1024 ∧ a.toNat = 0x2002 + 8 * k) → t = s.setW false ∧ v = s.status) ∧
    ((¬ ∃ k, k < 1024 ∧ a.toNat = 0x2002 + 8 * k) → t = s)

/-- R62, R63 (their order and wrap are the spec's decision D10): a 16-bit access is two one-byte accesses, low byte
first, the second address wrapping; a fault of the first prevents the second. -/
def Obligations.SixteenBitAccessIsTwoBytes : Prop :=
  ∀ (a : Word) (s : State),
    (∀ lo hi s1 s2, busRead a s = .ok (lo, s1) →
      busRead (BitVec.ofNat 16 ((a.toNat + 1) % 65536)) s1 = .ok (hi, s2) →
      ∃ v, memRead16 a s = .ok (v, s2) ∧ v.toNat = wordOf hi lo) ∧
    (∀ f, busRead a s = .error f → memRead16 a s = .error f) ∧
    (∀ (v : Word) (s1 s2 : State), busWrite a (BitVec.ofNat 8 (v.toNat % 256)) s = .ok s1 →
      busWrite (BitVec.ofNat 16 ((a.toNat + 1) % 65536)) (BitVec.ofNat 8 (v.toNat / 256)) s1 = .ok s2 →
      memWrite16 a v s = .ok s2) ∧
    (∀ (v : Word) (f : Fault), busWrite a (BitVec.ofNat 8 (v.toNat % 256)) s = .error f →
      memWrite16 a v s = .error f)

/-- Exactly which accesses answer: a read of work memory, of register indices 2, 4 and (by its video address) 7, of the
stub, cartridge RAM and ROM; a write of work memory, of the register window but index 2 and (by its video address) 7, of
the stub, of the bulk-copy register with a page that can be read whole, of cartridge RAM (20_memory.md sections 2 and 5;
D12, D14, D16). -/
def Obligations.AccessesAnswerExactlyWhereMapped : Prop :=
  ∀ (a : Word) (v : Byte) (s : State),
    ((∃ b t, busRead a s = .ok (b, t)) ↔ Readable a s) ∧ ((∃ t, busWrite a v s = .ok t) ↔ Writable a v s)

/-! ### The peripheral register file (20_memory.md, section 5) -/

/-- The spec's decision D16 on what the register enumeration does not list: reads of the write-only indices and a write
of index 2 fault, each with its kind, and so does an index that does not exist. -/
def Obligations.UnlistedRegisterAccessFaults : Prop :=
  ∀ (i : Nat) (v : Byte) (s : State),
    ((i ≠ 2 ∧ i ≠ 4 ∧ i ≠ 7) → periphRead i s = .error (.unsupportedRegisterAccess i .read)) ∧
    periphWrite 2 v s = .error (.readOnlyViolation .peripheral 2) ∧
    (8 < i → periphWrite i v s = .error (.unsupportedRegisterAccess i .write))

/-- Index 2 (that the byte itself is not changed is the spec's decision D17): a read returns `status` and clears the
write toggle, so that the next write of index 6 is a first write again, whatever came before. -/
def Obligations.StatusReadResetsTheToggle : Prop :=
  ∀ (s : State) (v : Byte), ∃ t u, periphRead 2 s = .ok (s.status, t) ∧ t = s.setW false ∧
    periphWrite 6 v t = .ok u ∧ u.vaddr.toNat = wordOf v (BitVec.ofNat 8 (s.vaddr.toNat % 256)) ∧ u.w = true ∧
    u.status = s.status

/-- R72, R73, R76, R80: a write of index 0, 1 or 3 stores the raw byte in `ctrl`, `mask` or `oam_addr`; two sequential
writes of index 5 set horizontal then vertical scroll, selected by the toggle, which each write inverts; nothing else
changes. -/
def Obligations.RawAndScrollWritesStoreTheByte : Prop :=
  ∀ (v : Byte) (s : State),
    periphWrite 0 v s = .ok { s with ctrl := v } ∧ periphWrite 1 v s = .ok { s with mask := v } ∧
    periphWrite 3 v s = .ok { s with oamAddr := v } ∧
    (s.w = false → periphWrite 5 v s = .ok { s with scrollX := v, w := true }) ∧
    (s.w = true → periphWrite 5 v s = .ok { s with scrollY := v, w := false })

/-- R78, R79: the OAM data port reads `oam[oam_addr]` without moving; a write stores there, then increments the index
modulo 256, and changes no other byte. -/
def Obligations.OamDataPortReadsAndAdvances : Prop :=
  ∀ (v : Byte) (s : State), periphRead 4 s = .ok (s.byte .oam s.oamAddr.toNat, s) ∧
    ∃ t, periphWrite 4 v s = .ok t ∧ t.byte .oam s.oamAddr.toNat = v ∧
      t.oamAddr.toNat = (s.oamAddr.toNat + 1) % 256 ∧ KeepsBytesBut .oam s.oamAddr.toNat s t ∧
      KeepsRegs [] s t ∧ KeepsFlags [] s t ∧ t.pc = s.pc ∧ KeepsRun s t ∧ t.w = s.w ∧ t.ctrl = s.ctrl ∧
      t.mask = s.mask ∧ t.scrollX = s.scrollX ∧ t.scrollY = s.scrollY ∧ t.vaddr = s.vaddr

/-- Index 6: the first write sets the high byte of the latch, the second the low byte, each keeping the other (keeping it
is the spec's decision D26), and inverts the shared toggle; nothing else changes and nothing faults. -/
def Obligations.AddressWritesPairUp : Prop :=
  ∀ (v : Byte) (s : State), ∃ t, periphWrite 6 v s = .ok t ∧ t.w = !s.w ∧
    t.vaddr.toNat = (if s.w then s.vaddr.toNat / 256 * 256 + v.toNat else v.toNat * 256 + s.vaddr.toNat % 256) ∧
    t = { s with vaddr := t.vaddr, w := t.w }

/-- Index 7 reads (bounds: the spec's decision D14; no buffer and no advance: D15): one of three stores by the range of
`vaddr`, changing nothing; every other address faults. -/
def Obligations.VideoReadByRange : Prop :=
  ∀ s : State,
    (s.vaddr.toNat < s.chrSize.bytes → periphRead 7 s = .ok (s.byte .chr s.vaddr.toNat, s)) ∧
    (0x2000 ≤ s.vaddr.toNat → s.vaddr.toNat ≤ 0x2FFF →
      periphRead 7 s = .ok (s.byte .vram ((s.vaddr.toNat - 0x2000) % 2048), s)) ∧
    (0x3F00 ≤ s.vaddr.toNat → s.vaddr.toNat ≤ 0x3FFF →
      periphRead 7 s = .ok (s.byte .pal (s.vaddr.toNat % 32), s)) ∧
    (¬ VideoReadable s.vaddr s → periphRead 7 s = .error (.unmappedVideoAddress s.vaddr .read))

/-- Index 7 writes (bounds: the spec's decision D14; no advance: D15): video memory through its mirror, palette memory
modulo 32, one byte changed and nothing else; graphics memory and every other address fault. -/
def Obligations.VideoWriteByRange : Prop :=
  ∀ (v : Byte) (s : State),
    (s.vaddr.toNat ≤ 0x1FFF → periphWrite 7 v s = .error (.readOnlyViolation .video s.vaddr)) ∧
    (VideoWritable s.vaddr → ∃ t st k, periphWrite 7 v s = .ok t ∧ periphRead 7 t = .ok (v, t) ∧
      (st, k) = (if s.vaddr.toNat ≤ 0x2FFF then (Store.vram, (s.vaddr.toNat - 0x2000) % 2048)
        else (Store.pal, s.vaddr.toNat % 32)) ∧
      t.byte st k = v ∧ KeepsBytesBut st k s t ∧ KeepsRegs [] s t ∧ KeepsFlags [] s t ∧ KeepsPeriph s t ∧
      t.w = s.w ∧ t.pc = s.pc ∧ KeepsRun s t) ∧
    (0x2000 ≤ s.vaddr.toNat → ¬ VideoWritable s.vaddr →
      periphWrite 7 v s = .error (.unmappedVideoAddress s.vaddr .write))

/-- The bulk copy through 0x4014 (that address: D12; the destination: D13): from a page that can be read whole, OAM byte
i becomes the bus byte at v * 256 + i for every i, and nothing else changes; from the register window it faults at its
first byte, from page 0x40 at 0x4019, from 0x41 to 0x5F at its first byte. -/
def Obligations.BulkCopyFillsOam : Prop :=
  ∀ (v : Byte) (s : State),
    (Copyable v → ∃ t, busWrite 0x4014 v s = .ok t ∧
      (∀ i, i < 256 → busRead (BitVec.ofNat 16 (v.toNat * 256 + i)) s = .ok (t.byte .oam i, s)) ∧
      (∀ st i, st ≠ .oam → t.byte st i = s.byte st i) ∧ KeepsRegs [] s t ∧ KeepsFlags [] s t ∧
      KeepsPeriph s t ∧ t.w = s.w ∧ t.pc = s.pc ∧ KeepsRun s t) ∧
    (0x20 ≤ v.toNat → v.toNat ≤ 0x3F → busWrite 0x4014 v s = .error (.unsupportedRegisterAccess 0 .read)) ∧
    (v.toNat = 0x40 → busWrite 0x4014 v s = .error (.unmappedAddress 0x4019 .read)) ∧
    (0x41 ≤ v.toNat → v.toNat ≤ 0x5F →
      busWrite 0x4014 v s = .error (.unmappedAddress (BitVec.ofNat 16 (v.toNat * 256)) .read))

/-! ### Operands (40_fetch_and_addressing.md) -/

/-- R125, R126, R127, R128: the zero-page modes stay in page 0, indexing modulo 256; the absolute modes index modulo
65536; resolving them reads nothing beyond the operand bytes and changes nothing. -/
def Obligations.DirectModesResolve : Prop :=
  ∀ (s : State) (z : Byte) (addr : Word),
    (∃ ea, effAddr (.zp z) s = .ok (ea, s) ∧ ea.toNat = z.toNat) ∧
    (∃ ea, effAddr (.zpx z) s = .ok (ea, s) ∧ ea.toNat = (z.toNat + s.x.toNat) % 256) ∧
    (∃ ea, effAddr (.zpy z) s = .ok (ea, s) ∧ ea.toNat = (z.toNat + s.y.toNat) % 256) ∧
    (∃ ea, effAddr (.abs addr) s = .ok (ea, s) ∧ ea = addr) ∧
    (∃ ea, effAddr (.absx addr) s = .ok (ea, s) ∧ ea.toNat = (addr.toNat + s.x.toNat) % 65536) ∧
    (∃ ea, effAddr (.absy addr) s = .ok (ea, s) ∧ ea.toNat = (addr.toNat + s.y.toNat) % 65536)

/-- Indirect,X and indirect,Y (the page-0 wrap is the spec's decision D21): both pointer bytes come from page 0 of work
memory, the pointer wrapping at 0xFF; indirect,Y then adds Y modulo 65536; neither ever faults or changes anything. -/
def Obligations.ZeroPagePointersWrap : Prop :=
  ∀ (s : State) (z : Byte),
    (∃ ea, effAddr (.indx z) s = .ok (ea, s) ∧ ea.toNat =
      wordOf (s.byte .wram ((z.toNat + s.x.toNat + 1) % 256)) (s.byte .wram ((z.toNat + s.x.toNat) % 256))) ∧
    (∃ ea, effAddr (.indy z) s = .ok (ea, s) ∧ ea.toNat =
      (wordOf (s.byte .wram ((z.toNat + 1) % 256)) (s.byte .wram z.toNat) + s.y.toNat) % 65536)

/-- R129: the indirect pointer's high byte is fetched from the start of the same page when the pointer's low byte is
0xFF, and from the next address otherwise; a fault of either read is the fault of the resolution. -/
def Obligations.IndirectPointerWrapsInItsPage : Prop :=
  ∀ (ptr : Word) (s : State),
    (∀ (next : Word) (lo : Byte) (s1 : State),
      next.toNat = (if ptr.toNat % 256 = 0xFF then ptr.toNat / 256 * 256 else ptr.toNat + 1) →
      busRead ptr s = .ok (lo, s1) →
      (∀ hi s2, busRead next s1 = .ok (hi, s2) →
        ∃ ea, indirectTarget ptr s = .ok (ea, s2) ∧ ea.toNat = wordOf hi lo) ∧
      (∀ f, busRead next s1 = .error f → indirectTarget ptr s = .error f)) ∧
    (∀ f, busRead ptr s = .error f → indirectTarget ptr s = .error f)

/-! ### Stack and flags (10_state.md, 40_fetch_and_addressing.md) -/

/-- Push and pull (store-then-decrement is the spec's decision D4): a push stores at `stack[SP]` and decrements modulo
256, a pull increments and reads; neither faults, no other byte and no other register changes; a pull after a push gives
the value back and restores `SP`; a 16-bit value is pushed high byte first and pulled low byte first, and comes back. -/
def Obligations.PushThenPullRestores : Prop :=
  ∀ (v : Byte) (n : Word) (s : State),
    (push v s).byte .stack s.sp.toNat = v ∧ (push v s).sp.toNat = (s.sp.toNat + 255) % 256 ∧
    KeepsBytesBut .stack s.sp.toNat s (push v s) ∧ KeepsRegs [.sp] s (push v s) ∧
    KeepsFlags [] s (push v s) ∧ KeepsPeriph s (push v s) ∧ (push v s).pc = s.pc ∧ (push v s).w = s.w ∧
    KeepsRun s (push v s) ∧
    pull s = (s.byte .stack ((s.sp.toNat + 1) % 256), { s with sp := BitVec.ofNat 8 ((s.sp.toNat + 1) % 256) }) ∧
    (pull (push v s)).1 = v ∧ (pull (push v s)).2.sp = s.sp ∧
    wordOf ((pushWord n s).byte .stack s.sp.toNat) ((pushWord n s).byte .stack (s.sp - 1).toNat) = n.toNat ∧
    (pushWord n s).sp = s.sp - 2 ∧ (pullWord (pushWord n s)).1 = n ∧ (pullWord (pushWord n s)).2.sp = s.sp

/-- R137: after `SetZN(v)` Z is set iff v is 0 and N iff bit 7 of v is 1, whatever the flags were, and the other six bits
of `P` stay. -/
def Obligations.SetZNFollowsTheResult : Prop :=
  ∀ p v : Byte, getFlag (setZN p v) .z = decide (v.toNat = 0) ∧ getFlag (setZN p v) .n = decide (128 ≤ v.toNat) ∧
    (∀ f, f ≠ .z → f ≠ .n → getFlag (setZN p v) f = getFlag p f)

/-! ### Loads, stores, transfers (41_load_store_transfer.md) -/

/-- R150, R151, R152: with a readable operand, LDA, LDX, LDY put it into the register and Z and N follow it; everything
else stays; with an unreadable one the step's fault is the read's. -/
def Obligations.LoadTakesTheOperand : Prop :=
  ∀ i op r src, LoadForm i op r src → ∀ s : State, (encode i).head? = some op ∧
    (∀ m s1, src.read s = .ok (m, s1) → ∃ t, exec i s = .next t ∧ t.reg r = m ∧ FollowsZN m.toNat t ∧
      KeepsRegs [r] s t ∧ KeepsFlags [.z, .n] s t ∧ KeepsRest s t ∧ t.w = s1.w ∧ t.pc = s.pc) ∧
    (∀ f, src.read s = .error f → exec i s = .fault f)

/-- R153, R154, R155: a store makes one bus write of the register to the effective address and no read: it completes where
the write does and faults where the write does; no register and no flag changes, and no byte but those the write at that
address stores to. -/
def Obligations.StoreWritesTheRegister : Prop :=
  ∀ i op r mode, StoreForm i op r mode → ∀ s : State, (encode i).head? = some op ∧
    ∃ ea, effAddr mode s = .ok (ea, s) ∧
      (Writable ea (s.reg r) s → ∃ t, exec i s = .next t ∧ busWrite ea (s.reg r) s = .ok t ∧
        KeepsRegs [] s t ∧ KeepsFlags [] s t ∧ t.pc = s.pc ∧ KeepsRun s t ∧
        (∀ st k, ¬ storesTo ea s st k → t.byte st k = s.byte st k) ∧
        (∀ st k, ea.toNat ≠ 0x4014 → storesTo ea s st k → t.byte st k = s.reg r)) ∧
      (∀ f, busWrite ea (s.reg r) s = .error f → exec i s = .fault f)

/-- R156 to R161: TAX, TAY, TXA, TYA, TSX copy the source register, Z and N follow it, all else stays; TXS copies X to `SP`
and changes nothing else, no flag included; none ever faults. -/
def Obligations.TransfersCopyARegister : Prop :=
  (∀ i op q r, TransferForm i op q r → ∀ s : State, (encode i).head? = some op ∧
    ∃ t, exec i s = .next t ∧ t.reg r = s.reg q ∧ FollowsZN (s.reg q).toNat t ∧ KeepsRegs [r] s t ∧
      KeepsFlags [.z, .n] s t ∧ KeepsRest s t ∧ t.w = s.w ∧ t.pc = s.pc) ∧
  (∀ s : State, encode .txs = [0x9A] ∧ exec .txs s = .next { s with sp := s.x })

/-! ### Arithmetic and logic (42_arithmetic_logic.md) -/

/-- R171: with a readable operand ADC adds it and C to A modulo 256 in binary, C is the carry out, V the signed overflow,
Z and N follow the result; everything else stays. -/
def Obligations.AdcAddsWithCarry : Prop :=
  ∀ i op src, AdcForm i op src → ∀ s : State, (encode i).head? = some op ∧
    (∀ m s1, src.read s = .ok (m, s1) → ∃ t, exec i s = .next t ∧
      t.a.toNat = (s.a.toNat + m.toNat + s.carry) % 256 ∧
      t.flag .c = decide (255 < s.a.toNat + m.toNat + s.carry) ∧
      t.flag .v = decide (s.a.toInt + m.toInt + s.carry < -128 ∨ 127 < s.a.toInt + m.toInt + s.carry) ∧
      FollowsZN t.a.toNat t ∧ KeepsRegs [.a] s t ∧ KeepsFlags [.c, .z, .v, .n] s t ∧ KeepsRest s t ∧
      t.w = s1.w ∧ t.pc = s.pc) ∧
    (∀ f, src.read s = .error f → exec i s = .fault f)

/-- R172: with a readable operand SBC subtracts it and the inverse of C from A modulo 256, C is set iff there is no borrow,
V is the signed overflow, Z and N follow the result; everything else stays. -/
def Obligations.SbcSubtractsWithBorrow : Prop :=
  ∀ i op src, SbcForm i op src → ∀ s : State, (encode i).head? = some op ∧
    (∀ m s1, src.read s = .ok (m, s1) → ∃ t, exec i s = .next t ∧
      t.a.toNat = (s.a.toNat + 255 + s.carry - m.toNat) % 256 ∧
      t.flag .c = decide (m.toNat + 1 ≤ s.a.toNat + s.carry) ∧
      t.flag .v = decide (s.a.toInt - m.toInt - 1 + s.carry < -128 ∨ 127 < s.a.toInt - m.toInt - 1 + s.carry) ∧
      FollowsZN t.a.toNat t ∧ KeepsRegs [.a] s t ∧ KeepsFlags [.c, .z, .v, .n] s t ∧ KeepsRest s t ∧
      t.w = s1.w ∧ t.pc = s.pc) ∧
    (∀ f, src.read s = .error f → exec i s = .fault f)

/-- R173, R174, R175: with a readable operand AND, ORA, EOR combine it with A bit by bit, Z and N follow the result,
everything else stays. -/
def Obligations.LogicCombinesBits : Prop :=
  ∀ i op src (f : Bool → Bool → Bool),
    (AndForm i op src ∧ f = and) ∨ (OraForm i op src ∧ f = or) ∨ (EorForm i op src ∧ f = xor) →
    ∀ s : State, (encode i).head? = some op ∧
      (∀ m s1, src.read s = .ok (m, s1) → ∃ t, exec i s = .next t ∧
        (∀ k, k < 8 → t.a.getLsbD k = f (s.a.getLsbD k) (m.getLsbD k)) ∧ FollowsZN t.a.toNat t ∧
        KeepsRegs [.a] s t ∧ KeepsFlags [.z, .n] s t ∧ KeepsRest s t ∧ t.w = s1.w ∧ t.pc = s.pc) ∧
      (∀ g, src.read s = .error g → exec i s = .fault g)

/-- R176: with a readable operand BIT sets Z from `A & M`, N and V from bits 7 and 6 of the operand; no register and nothing
else changes. -/
def Obligations.BitTestsTheOperand : Prop :=
  ∀ i op mode, BitForm i op mode → ∀ s : State, (encode i).head? = some op ∧
    (∀ m s1, Source.read (.mem mode) s = .ok (m, s1) → ∃ t, exec i s = .next t ∧
      t.flag .z = decide (s.a &&& m = 0) ∧
      t.flag .n = m.getLsbD 7 ∧ t.flag .v = m.getLsbD 6 ∧ KeepsRegs [] s t ∧
      KeepsFlags [.z, .v, .n] s t ∧ KeepsRest s t ∧ t.w = s1.w ∧ t.pc = s.pc) ∧
    (∀ f, Source.read (.mem mode) s = .error f → exec i s = .fault f)

/-- R177, R178, R179: with a readable operand CMP, CPX, CPY set C iff the register is at least the operand unsigned, Z iff
they are equal, N from bit 7 of the difference, each on its own; no register and nothing else changes. -/
def Obligations.CompareSetsThreeFlags : Prop :=
  ∀ i op r src, CompareForm i op r src → ∀ s : State, (encode i).head? = some op ∧
    (∀ m s1, src.read s = .ok (m, s1) → ∃ t, exec i s = .next t ∧
      t.flag .c = decide (m.toNat ≤ (s.reg r).toNat) ∧ t.flag .z = decide (s.reg r = m) ∧
      t.flag .n = decide (128 ≤ ((s.reg r).toNat + 256 - m.toNat) % 256) ∧ KeepsRegs [] s t ∧
      KeepsFlags [.c, .z, .n] s t ∧ KeepsRest s t ∧ t.w = s1.w ∧ t.pc = s.pc) ∧
    (∀ f, src.read s = .error f → exec i s = .fault f)

/-- R180, R181: INC and DEC read one byte, write it back plus or minus 1 modulo 256 to the same address, and Z and N follow
what was written; they complete where the read and the write do; no register, no other flag and no byte but those that
write stores to changes. -/
def Obligations.IncDecMemoryWritesBack : Prop :=
  ∀ i op mode (d : Nat), (IncForm i op mode ∧ d = 1) ∨ (DecForm i op mode ∧ d = 255) →
    ∀ s : State, (encode i).head? = some op ∧ ∃ ea, effAddr mode s = .ok (ea, s) ∧
      (∀ v s1 (r : Byte), busRead ea s = .ok (v, s1) → r.toNat = (v.toNat + d) % 256 →
        (∀ s2, busWrite ea r s1 = .ok s2 → ∃ t, exec i s = .next t ∧ FollowsZN r.toNat t ∧
          KeepsRegs [] s t ∧ KeepsFlags [.z, .n] s t ∧ KeepsBytes s2 t ∧ KeepsPeriph s2 t ∧ t.w = s2.w ∧
          t.pc = s.pc ∧ KeepsRun s t ∧ (∀ st k, ¬ storesTo ea s st k → t.byte st k = s.byte st k) ∧
          (∀ st k, ea.toNat ≠ 0x4014 → storesTo ea s st k → t.byte st k = r)) ∧
        (∀ f, busWrite ea r s1 = .error f → exec i s = .fault f)) ∧
      (∀ f, busRead ea s = .error f → exec i s = .fault f)

/-- R182, R183, R184, R185: INX, INY, DEX, DEY add or subtract 1 modulo 256, Z and N follow, all else stays; and they never
fault. -/
def Obligations.IncDecRegisterWraps : Prop :=
  ∀ i op r d, StepRegForm i op r d → ∀ s : State, (encode i).head? = some op ∧
    ∃ t, exec i s = .next t ∧ (t.reg r).toNat = ((s.reg r).toNat + d) % 256 ∧ FollowsZN (t.reg r).toNat t ∧
      KeepsRegs [r] s t ∧ KeepsFlags [.z, .n] s t ∧ KeepsRest s t ∧ t.w = s.w ∧ t.pc = s.pc

/-! ### Shifts and rotates (43_shift_rotate.md) -/

/-- R201 to R204, the accumulator forms: A shifted or rotated by one bit, C the bit shifted out, Z and N of the result, all
else stays; and they never fault. -/
def Obligations.ShiftAccumulatorByOne : Prop :=
  ∀ i op kind, ShiftForm i op kind .acc → ∀ s : State, (encode i).head? = some op ∧
    ∃ t, exec i s = .next t ∧ t.a.toNat = kind.result s.a.toNat s.carry ∧
      t.flag .c = kind.out s.a.toNat ∧ FollowsZN t.a.toNat t ∧ KeepsRegs [.a] s t ∧
      KeepsFlags [.c, .z, .n] s t ∧ KeepsRest s t ∧ t.w = s.w ∧ t.pc = s.pc

/-- R201 to R204, the memory forms: one read and one write of the same address, the byte shifted or rotated by one bit, C the
bit shifted out, Z and N of the result; they complete where the read and the write do; no register, no other flag and no
byte but those that write stores to changes. -/
def Obligations.ShiftMemoryByOne : Prop :=
  ∀ i op kind mode, ShiftForm i op kind (.mem mode) → ∀ s : State, (encode i).head? = some op ∧
    ∃ ea, effAddr mode s = .ok (ea, s) ∧
      (∀ v s1 (r : Byte), busRead ea s = .ok (v, s1) → r.toNat = kind.result v.toNat s.carry →
        (∀ s2, busWrite ea r s1 = .ok s2 → ∃ t, exec i s = .next t ∧ t.flag .c = kind.out v.toNat ∧
          FollowsZN r.toNat t ∧ KeepsRegs [] s t ∧ KeepsFlags [.c, .z, .n] s t ∧ KeepsBytes s2 t ∧
          KeepsPeriph s2 t ∧ t.w = s2.w ∧ t.pc = s.pc ∧ KeepsRun s t ∧
          (∀ st k, ¬ storesTo ea s st k → t.byte st k = s.byte st k) ∧
          (∀ st k, ea.toNat ≠ 0x4014 → storesTo ea s st k → t.byte st k = r)) ∧
        (∀ f, busWrite ea r s1 = .error f → exec i s = .fault f)) ∧
      (∀ f, busRead ea s = .error f → exec i s = .fault f)

/-! ### Control flow (44_control_flow.md) -/

/-- R210: JMP sets `PC` to the operand, or to the word the pointer's bytes hold; nothing else changes; JMP indirect faults
where its pointer cannot be read. -/
def Obligations.JmpGoesToItsTarget : Prop :=
  (∀ (addr : Word) (s : State), (encode (.jmpAbs addr)).head? = some 0x4C ∧
    exec (.jmpAbs addr) s = .next { s with pc := addr }) ∧
  (∀ (ptr : Word) (s : State), (encode (.jmpInd ptr)).head? = some 0x6C ∧
    (∀ target s1, indirectTarget ptr s = .ok (target, s1) → ∃ t, exec (.jmpInd ptr) s = .next t ∧
      t.pc = target ∧ KeepsRegs [] s t ∧ KeepsFlags [] s t ∧ KeepsRest s t ∧ t.w = s1.w) ∧
    (∀ f, indirectTarget ptr s = .error f → exec (.jmpInd ptr) s = .fault f))

/-- R211, R212: JSR pushes the return address minus one (`pc0 + 1`), high byte first, and goes to its target; RTS pulls two
bytes, low first, and adds 1; nothing else changes, and neither faults. -/
def Obligations.CallPushesAndReturnPulls : Prop :=
  (∀ (addr : Word) (s : State), (encode (.jsr addr)).head? = some 0x20 ∧
    ∃ t, exec (.jsr addr) s = .next t ∧ t.pc = addr ∧ t.sp = s.sp - 2 ∧
      wordOf (t.byte .stack s.sp.toNat) (t.byte .stack (s.sp - 1).toNat) = (s.pc.toNat + 1) % 65536 ∧
      (∀ st k, ¬(st = .stack ∧ (k = s.sp.toNat ∨ k = (s.sp - 1).toNat)) → t.byte st k = s.byte st k) ∧
      KeepsRegs [.sp] s t ∧ KeepsFlags [] s t ∧ KeepsPeriph s t ∧ t.w = s.w ∧ KeepsRun s t) ∧
  (∀ s : State, encode .rts = [0x60] ∧ ∃ t, exec .rts s = .next t ∧
    t.pc.toNat = (wordOf (s.byte .stack (s.sp + 2).toNat) (s.byte .stack (s.sp + 1).toNat) + 1) % 65536 ∧
    t.sp = s.sp + 2 ∧ KeepsRegs [.sp] s t ∧ KeepsFlags [] s t ∧ KeepsRest s t ∧ t.w = s.w)

/-- R213 to R221: a branch is taken iff its flag has its value; taken, `PC` is `pc0 + 1 + sext_8(rel8)` modulo 65536, and
otherwise nothing changes at all; it never faults once fetched.  The base `pc0` is the spec's decision D7. -/
def Obligations.BranchTestsItsFlag : Prop :=
  ∀ i op f v rel, BranchForm i op f v rel → ∀ s : State, (encode i) = [op, rel] ∧
    (s.flag f = v → exec i s = .next { s with pc := BitVec.ofInt 16 (s.pc.toNat + 1 + rel.toInt) }) ∧
    (s.flag f ≠ v → exec i s = .next s)

/-! ### Stack, flags, system (45_stack_flags_system.md) -/

/-- R230, R232: PHA pushes A; PLA pulls A and Z and N follow it; nothing else changes and neither faults. -/
def Obligations.PhaPlaMoveTheAccumulator : Prop :=
  ∀ s : State, encode .pha = [0x48] ∧ encode .pla = [0x68] ∧
    (∃ t, exec .pha s = .next t ∧ t.byte .stack s.sp.toNat = s.a ∧ t.sp = s.sp - 1 ∧
      KeepsBytesBut .stack s.sp.toNat s t ∧ KeepsRegs [.sp] s t ∧ KeepsFlags [] s t ∧ KeepsPeriph s t ∧
      t.w = s.w ∧ t.pc = s.pc ∧ KeepsRun s t) ∧
    (∃ t, exec .pla s = .next t ∧ t.a = s.byte .stack (s.sp + 1).toNat ∧ t.sp = s.sp + 1 ∧
      FollowsZN t.a.toNat t ∧ KeepsRegs [.a, .sp] s t ∧ KeepsFlags [.z, .n] s t ∧ KeepsRest s t ∧
      t.w = s.w ∧ t.pc = s.pc)

/-- PHP and PLP, all eight bits as they stand, none forced or masked (the spec's decision D5): PHP pushes `P`, PLP loads
it; nothing else changes and neither faults.  `P` is its eight flags at the places of R24 (the spec's decision D2). -/
def Obligations.PhpPlpMoveAllOfP : Prop :=
  ∀ s : State, encode .php = [0x08] ∧ encode .plp = [0x28] ∧
    s.p.toNat = carryNat (s.flag .c) + 2 * carryNat (s.flag .z) + 4 * carryNat (s.flag .i) +
      8 * carryNat (s.flag .d) + 16 * carryNat (s.flag .b) + 32 * carryNat (s.flag .u) +
      64 * carryNat (s.flag .v) + 128 * carryNat (s.flag .n) ∧
    (∃ t, exec .php s = .next t ∧ t.byte .stack s.sp.toNat = s.p ∧ t.sp = s.sp - 1 ∧
      KeepsBytesBut .stack s.sp.toNat s t ∧ KeepsRegs [.sp] s t ∧ t.p = s.p ∧ KeepsPeriph s t ∧
      t.w = s.w ∧ t.pc = s.pc ∧ KeepsRun s t) ∧
    (∃ t, exec .plp s = .next t ∧ t.p = s.byte .stack (s.sp + 1).toNat ∧ t.sp = s.sp + 1 ∧
      KeepsRegs [.sp] s t ∧ KeepsRest s t ∧ t.w = s.w ∧ t.pc = s.pc)

/-- R234 to R241: CLC, CLD, CLI, CLV clear and SEC, SED, SEI set their one flag, and NOP changes nothing: every other bit of
`P` and everything else stays. -/
def Obligations.FlagInstructionsWriteOneFlag : Prop :=
  (∀ i op f v, FlagForm i op f v → ∀ s : State, encode i = [op] ∧ ∃ t, exec i s = .next t ∧ t.flag f = v ∧
    KeepsFlags [f] s t ∧ KeepsRegs [] s t ∧ KeepsRest s t ∧ t.w = s.w ∧ t.pc = s.pc) ∧
  (∀ s : State, encode .nop = [0xEA] ∧ exec .nop s = .next s)

/-- BRK, the trap entry (the return address `a0 + 2`, I unchanged, and B set after the push are the spec's decisions D5 and
D6; log entry 7): pushes `pc0 + 1` high byte first, then `P` as it stood, goes to the word at 0xFFFE and sets B; nothing
else changes and it never faults. -/
def Obligations.BrkTakesTheTrap : Prop :=
  ∀ s : State, encode .brk = [0x00] ∧ ∃ t, exec .brk s = .next t ∧
    t.pc.toNat = wordOf (s.byte .prg (0x7FFF % s.prgSize.bytes)) (s.byte .prg (0x7FFE % s.prgSize.bytes)) ∧
    t.sp = s.sp - 3 ∧
    wordOf (t.byte .stack s.sp.toNat) (t.byte .stack (s.sp - 1).toNat) = (s.pc.toNat + 1) % 65536 ∧
    t.byte .stack (s.sp - 2).toNat = s.p ∧ t.flag .b = true ∧ KeepsFlags [.b] s t ∧ KeepsRegs [.sp] s t ∧
    (∀ st k, ¬(st = .stack ∧ (k = s.sp.toNat ∨ k = (s.sp - 1).toNat ∨ k = (s.sp - 2).toNat)) →
      t.byte st k = s.byte st k) ∧
    KeepsPeriph s t ∧ t.w = s.w ∧ KeepsRun s t

/-- RTI, the trap return (all eight bits of `P` unmasked: the spec's decision D5): pulls `P`, then the address low byte
first, with no adjustment; only `P`, `SP` and `PC` change and it never faults. -/
def Obligations.RtiReturnsFromTheTrap : Prop :=
  ∀ s : State, encode .rti = [0x40] ∧ ∃ t, exec .rti s = .next t ∧ t.p = s.byte .stack (s.sp + 1).toNat ∧
    t.pc.toNat = wordOf (s.byte .stack (s.sp + 3).toNat) (s.byte .stack (s.sp + 2).toNat) ∧
    t.sp = s.sp + 3 ∧ KeepsRegs [.sp] s t ∧ KeepsRest s t ∧ t.w = s.w

/-- Call and return, trap and return, push and pull undo each other: an RTS anywhere after a JSR resumes at the call-site
address plus 3, an RTI after a BRK at the trap's return address with the old `P`, a PLA after a PHA restores A whatever it
became; `SP` is back each time (44_control_flow.md, 45_stack_flags_system.md; D5, D6). -/
def Obligations.CallTrapAndPushRoundTrip : Prop :=
  ∀ (s : State) (q addr : Word) (v : Byte),
    (∃ t u, exec (.jsr addr) s = .next t ∧ exec .rts { t with pc := q } = .next u ∧ u.pc = s.pc + 2 ∧
      u.sp = s.sp) ∧
    (∃ t u, exec .brk s = .next t ∧ exec .rti { t with pc := q } = .next u ∧ u.pc = s.pc + 1 ∧ u.p = s.p ∧
      u.sp = s.sp) ∧
    (∃ t u, exec .pha s = .next t ∧ exec .pla { t with a := v } = .next u ∧ u.a = s.a ∧ u.x = s.x ∧
      u.y = s.y ∧ u.sp = s.sp)

/-! ### Whole-machine rules -/

/-- R25 (an inference the spec marks as its own): an instruction that is not in a flag's list of writers leaves the flag
unchanged. -/
def Obligations.OnlyListedInstructionsWriteFlags : Prop :=
  ∀ (i : Instr) (s t : State) (f : Flag), exec i s = .next t → ¬ FlagWriter f i → t.flag f = s.flag f

/-- I, D, B and U are read by nothing but PHP and BRK (R25, an inference the spec marks as its own; D3, D25): two states
that differ only in those bits of `P` go the same way, and end differing only there. -/
def Obligations.InertFlagsInfluenceNothing : Prop :=
  ∀ (i : Instr) (s : State) (p' : Byte), i ≠ .php → i ≠ .brk → readBits p' = readBits s.p →
    (∀ t, exec i s = .next t → ∃ u, exec i { s with p := p' } = .next u ∧ readBits u.p = readBits t.p ∧
      { u with p := t.p } = t) ∧
    (∀ f, exec i s = .fault f → exec i { s with p := p' } = .fault f)

/-- `PC` is assigned only by the control transfers, the stack array is touched only by the instructions that push or pull,
`SP` besides only by TXS, no instruction writes `status`, and one with no data write leaves every byte outside the stack
array and every peripheral register but the toggle unchanged (10_state.md sections 1 and 3, 20_memory.md section 4,
44_control_flow.md; D4, D9, D17). -/
def Obligations.OnlyTheirOwnInstructionsTouch : Prop :=
  ∀ (i : Instr) (s t : State), exec i s = .next t →
    (¬ ControlTransfer i → t.pc = s.pc) ∧
    (¬ StackUser i → (∀ k, t.byte .stack k = s.byte .stack k) ∧ (i ≠ .txs → t.sp = s.sp)) ∧
    t.status = s.status ∧
    ((¬ ∃ mode, BusWriter i mode) →
      (∀ st k, st ≠ .stack → t.byte st k = s.byte st k) ∧ KeepsPeriph s t ∧ (t.w = s.w ∨ t.w = false))

/-- R262 (an inference the spec marks as its own): an instruction of one byte never faults once fetched, BRK included since
its vector lies in ROM, nor does a branch, JSR or an absolute JMP; and no instruction is ever refused. -/
def Obligations.ImpliedInstructionsNeverFault : Prop :=
  ∀ (i : Instr) (s : State),
    ((encode i).length = 1 ∨ (∃ op f v rel, BranchForm i op f v rel) ∨ (∃ addr, i = .jsr addr ∨ i = .jmpAbs addr) →
      ∃ t, exec i s = .next t) ∧
    (∀ r, exec i s ≠ .refused r) ∧ (∀ r, step s ≠ .refused r)

/-! ### Host moves (70_reset_and_hazards.md) -/

/-- `reset()` zeroes A, X, Y, SP and P, sets the machine running and reseeds `PC` from the reset vector; every memory and
every peripheral register stays (the spec's decision D22). -/
def Obligations.HostResetZeroesRegistersOnly : Prop :=
  ∀ s : State, ∃ t, hostReset s = .next t ∧
    t.pc.toNat = wordOf (s.byte .prg (0x7FFD % s.prgSize.bytes)) (s.byte .prg (0x7FFC % s.prgSize.bytes)) ∧
    t = { s with a := 0, x := 0, y := 0, sp := 0, p := 0, halted := .running, pc := t.pc }

/-- `load(rom)` measures the cartridge's bytes and installs them and the power-on contents, zeroes every CPU and
peripheral register (the spec's decision D22), sets the machine running and seeds `PC` from the reset vector; lengths that
are not admitted it refuses (D19).  The list of `status` values is the model's input (log entry 4), and that the state is
canonical when the contents given are is about the model's own representation (log entry 8). -/
def Obligations.LoadInstallsTheCartridge : Prop :=
  ∀ (rom : Cartridge) (init : InitMem) (vs : List Byte),
    (rom.sized → ∃ t, load rom init vs = .next t ∧ (init.wf = true → t.wf = true) ∧
      (∀ k, k < rom.prg.length → rom.prg[k]? = some (t.byte .prg k)) ∧
      (∀ k, k < rom.chr.length → rom.chr[k]? = some (t.byte .chr k)) ∧
      t.prgSize.bytes = rom.prg.length ∧ t.chrSize.bytes = rom.chr.length ∧
      t.stack = init.stack ∧ t.wram = init.wram ∧ t.cram = init.cram ∧ t.oam = init.oam ∧ t.vram = init.vram ∧
      t.pal = init.pal ∧ t.a = 0 ∧ t.x = 0 ∧ t.y = 0 ∧ t.sp = 0 ∧ t.p = 0 ∧ t.ctrl = 0 ∧ t.mask = 0 ∧ t.status = 0 ∧
      t.oamAddr = 0 ∧ t.scrollX = 0 ∧ t.scrollY = 0 ∧ t.vaddr = 0 ∧ t.w = false ∧ t.halted = .running ∧
      t.statusIn = vs ∧
      t.pc.toNat = wordOf (t.byte .prg (0x7FFD % t.prgSize.bytes)) (t.byte .prg (0x7FFC % t.prgSize.bytes))) ∧
    (¬ rom.sized → load rom init vs = .refused (.cartridgeSize rom.prg.length rom.chr.length))

/-- Loading a cartridge file: a wrong magic faults with `BadMagic` whatever else the file holds; the magic and a mapper
number other than 0 fault with `UnsupportedMapper` and the number; mapper 0 with admitted sizes and enough bytes (log entry
9) loads the program bytes after the header and the trainer and the graphics bytes after those, of the sizes the header
gives; mapper 0 with other sizes, or too few bytes, is refused (the constants and the order are the spec's decision D23,
the sizes D19; the trainer's bit is UNVERIFIED, log entry 9). -/
def Obligations.CartridgeFileChecks : Prop :=
  ∀ (file : List Byte) (init : InitMem) (vs : List Byte),
    (file.take 4 ≠ [0x4E, 0x45, 0x53, 0x1A] → loadFile file init vs = .fault .badMagic) ∧
    (file.take 4 = [0x4E, 0x45, 0x53, 0x1A] → ∀ (b4 b5 b6 b7 : Byte) (rest : List Byte),
      file.drop 4 = b4 :: b5 :: b6 :: b7 :: rest →
      (∀ n : Byte, n.toNat = b7.toNat / 16 * 16 + b6.toNat / 16 → n ≠ 0 →
        loadFile file init vs = .fault (.unsupportedMapper n)) ∧
      (b7.toNat / 16 = 0 → b6.toNat / 16 = 0 →
        ((b4 = 1 ∨ b4 = 2) ∧ (b5 = 0 ∨ b5 = 1) ∧
          bodyStart b6 + 16384 * b4.toNat + 8192 * b5.toNat ≤ file.length →
          ∃ t, loadFile file init vs = .next t ∧ t.prgSize.bytes = 16384 * b4.toNat ∧
            t.chrSize.bytes = 8192 * b5.toNat ∧
            (∀ k, k < t.prgSize.bytes → file[bodyStart b6 + k]? = some (t.byte .prg k)) ∧
            (∀ k, k < t.chrSize.bytes → file[bodyStart b6 + t.prgSize.bytes + k]? = some (t.byte .chr k))) ∧
        (¬((b4 = 1 ∨ b4 = 2) ∧ (b5 = 0 ∨ b5 = 1) ∧
          bodyStart b6 + 16384 * b4.toNat + 8192 * b5.toNat ≤ file.length) →
          ∃ r, loadFile file init vs = .refused r)))
end

