-- ==== Sys2Proof/Laws/Decode.lean ====
section
/-! SUPPORT. The laws of the byte-order helpers and of the row lookup. -/

namespace Sys2Proof

theorem loByte_toNat (w : Word) : (loByte w).toNat = w.toNat % 256 := by
  simp [loByte, BitVec.toNat_setWidth]

theorem hiByte_toNat (w : Word) : (hiByte w).toNat = w.toNat / 256 := by
  have := w.isLt
  simp only [hiByte, BitVec.toNat_setWidth, BitVec.toNat_ushiftRight, Nat.shiftRight_eq_div_pow]
  omega

theorem mkWord_toNat (hi lo : Byte) : (mkWord hi lo).toNat = 256 * hi.toNat + lo.toNat := by
  have h1 := hi.isLt
  have h2 := lo.isLt
  have h3 : hi.toNat % 65536 = hi.toNat := Nat.mod_eq_of_lt (by omega)
  have h4 : lo.toNat % 65536 = lo.toNat := Nat.mod_eq_of_lt (by omega)
  have h5 : hi.toNat * 2 ^ 8 % 65536 = hi.toNat * 2 ^ 8 := Nat.mod_eq_of_lt (by omega)
  simp only [mkWord, BitVec.toNat_or, BitVec.toNat_shiftLeft, BitVec.toNat_setWidth, Nat.shiftLeft_eq,
    Nat.reducePow] at *
  rw [h3, h4, h5, Nat.mul_comm, ← Nat.two_pow_add_eq_or_of_lt (i := 8) (by omega)]

/-- A word is the word of its two bytes. -/
@[simp] theorem mkWord_hiByte_loByte (w : Word) : mkWord (hiByte w) (loByte w) = w := by
  apply BitVec.eq_of_toNat_eq
  rw [mkWord_toNat, hiByte_toNat, loByte_toNat]
  omega

@[simp] theorem loByte_mkWord (hi lo : Byte) : loByte (mkWord hi lo) = lo := by
  apply BitVec.eq_of_toNat_eq
  rw [loByte_toNat, mkWord_toNat]
  omega

@[simp] theorem hiByte_mkWord (hi lo : Byte) : hiByte (mkWord hi lo) = hi := by
  apply BitVec.eq_of_toNat_eq
  rw [hiByte_toNat, mkWord_toNat]
  omega

/-- A row that the lookup finds is in the list and has the opcode asked for. -/
theorem findRow_some {op : Byte} {l : List Row} {r : Row} (h : findRow op l = some r) : r ∈ l ∧ r.op = op := by
  induction l with
  | nil => cases h
  | cons q rest ih =>
    rw [findRow] at h
    split at h
    · rename_i hq
      cases h
      exact ⟨List.mem_cons_self, hq⟩
    · exact ⟨List.mem_cons_of_mem _ (ih h).1, (ih h).2⟩

/-- A decode that answers looked its opcode byte up and built the instruction from the bytes after it. -/
theorem decode_ok {bs rest : List Byte} {i : Instr} (h : decode bs = .ok (i, rest)) :
    ∃ op operands r, bs = op :: operands ∧ Config.implemented op = true ∧ findRow op rows = some r ∧
      r.maker.build operands = some (i, rest) := by
  cases bs with
  | nil => cases h
  | cons op operands =>
    simp only [decode] at h
    split at h
    · rename_i himp
      split at h
      · cases h
      · rename_i r hr
        split at h
        · cases h
        · rename_i out hb
          cases h
          exact ⟨op, operands, r, rfl, himp, hr, hb⟩
    · cases h

end Sys2Proof
end

