-- ==== Sys2Proof/Laws/State.lean ====
section
/-! SUPPORT. One lemma per field per update of State, each true by rfl: after `setF`, field `F` is the value
written and every other field is as before.  Then the same for the register and flag accessors. -/

namespace Sys2Proof.Machine.State

variable (s : State)

section
variable (v : Byte)
@[simp] theorem setA_a : (s.setA v).a = v := rfl
@[simp] theorem setA_x : (s.setA v).x = s.x := rfl
@[simp] theorem setA_y : (s.setA v).y = s.y := rfl
@[simp] theorem setA_sp : (s.setA v).sp = s.sp := rfl
@[simp] theorem setA_p : (s.setA v).p = s.p := rfl
@[simp] theorem setA_pc : (s.setA v).pc = s.pc := rfl
@[simp] theorem setA_stack : (s.setA v).stack = s.stack := rfl
@[simp] theorem setA_wram : (s.setA v).wram = s.wram := rfl
@[simp] theorem setA_cram : (s.setA v).cram = s.cram := rfl
@[simp] theorem setA_prg : (s.setA v).prg = s.prg := rfl
@[simp] theorem setA_prgSize : (s.setA v).prgSize = s.prgSize := rfl
@[simp] theorem setA_chr : (s.setA v).chr = s.chr := rfl
@[simp] theorem setA_chrSize : (s.setA v).chrSize = s.chrSize := rfl
@[simp] theorem setA_ctrl : (s.setA v).ctrl = s.ctrl := rfl
@[simp] theorem setA_mask : (s.setA v).mask = s.mask := rfl
@[simp] theorem setA_status : (s.setA v).status = s.status := rfl
@[simp] theorem setA_oamAddr : (s.setA v).oamAddr = s.oamAddr := rfl
@[simp] theorem setA_oam : (s.setA v).oam = s.oam := rfl
@[simp] theorem setA_scrollX : (s.setA v).scrollX = s.scrollX := rfl
@[simp] theorem setA_scrollY : (s.setA v).scrollY = s.scrollY := rfl
@[simp] theorem setA_vaddr : (s.setA v).vaddr = s.vaddr := rfl
@[simp] theorem setA_w : (s.setA v).w = s.w := rfl
@[simp] theorem setA_vram : (s.setA v).vram = s.vram := rfl
@[simp] theorem setA_pal : (s.setA v).pal = s.pal := rfl
@[simp] theorem setA_halted : (s.setA v).halted = s.halted := rfl
@[simp] theorem setA_statusIn : (s.setA v).statusIn = s.statusIn := rfl
end

section
variable (v : Byte)
@[simp] theorem setX_a : (s.setX v).a = s.a := rfl
@[simp] theorem setX_x : (s.setX v).x = v := rfl
@[simp] theorem setX_y : (s.setX v).y = s.y := rfl
@[simp] theorem setX_sp : (s.setX v).sp = s.sp := rfl
@[simp] theorem setX_p : (s.setX v).p = s.p := rfl
@[simp] theorem setX_pc : (s.setX v).pc = s.pc := rfl
@[simp] theorem setX_stack : (s.setX v).stack = s.stack := rfl
@[simp] theorem setX_wram : (s.setX v).wram = s.wram := rfl
@[simp] theorem setX_cram : (s.setX v).cram = s.cram := rfl
@[simp] theorem setX_prg : (s.setX v).prg = s.prg := rfl
@[simp] theorem setX_prgSize : (s.setX v).prgSize = s.prgSize := rfl
@[simp] theorem setX_chr : (s.setX v).chr = s.chr := rfl
@[simp] theorem setX_chrSize : (s.setX v).chrSize = s.chrSize := rfl
@[simp] theorem setX_ctrl : (s.setX v).ctrl = s.ctrl := rfl
@[simp] theorem setX_mask : (s.setX v).mask = s.mask := rfl
@[simp] theorem setX_status : (s.setX v).status = s.status := rfl
@[simp] theorem setX_oamAddr : (s.setX v).oamAddr = s.oamAddr := rfl
@[simp] theorem setX_oam : (s.setX v).oam = s.oam := rfl
@[simp] theorem setX_scrollX : (s.setX v).scrollX = s.scrollX := rfl
@[simp] theorem setX_scrollY : (s.setX v).scrollY = s.scrollY := rfl
@[simp] theorem setX_vaddr : (s.setX v).vaddr = s.vaddr := rfl
@[simp] theorem setX_w : (s.setX v).w = s.w := rfl
@[simp] theorem setX_vram : (s.setX v).vram = s.vram := rfl
@[simp] theorem setX_pal : (s.setX v).pal = s.pal := rfl
@[simp] theorem setX_halted : (s.setX v).halted = s.halted := rfl
@[simp] theorem setX_statusIn : (s.setX v).statusIn = s.statusIn := rfl
end

section
variable (v : Byte)
@[simp] theorem setY_a : (s.setY v).a = s.a := rfl
@[simp] theorem setY_x : (s.setY v).x = s.x := rfl
@[simp] theorem setY_y : (s.setY v).y = v := rfl
@[simp] theorem setY_sp : (s.setY v).sp = s.sp := rfl
@[simp] theorem setY_p : (s.setY v).p = s.p := rfl
@[simp] theorem setY_pc : (s.setY v).pc = s.pc := rfl
@[simp] theorem setY_stack : (s.setY v).stack = s.stack := rfl
@[simp] theorem setY_wram : (s.setY v).wram = s.wram := rfl
@[simp] theorem setY_cram : (s.setY v).cram = s.cram := rfl
@[simp] theorem setY_prg : (s.setY v).prg = s.prg := rfl
@[simp] theorem setY_prgSize : (s.setY v).prgSize = s.prgSize := rfl
@[simp] theorem setY_chr : (s.setY v).chr = s.chr := rfl
@[simp] theorem setY_chrSize : (s.setY v).chrSize = s.chrSize := rfl
@[simp] theorem setY_ctrl : (s.setY v).ctrl = s.ctrl := rfl
@[simp] theorem setY_mask : (s.setY v).mask = s.mask := rfl
@[simp] theorem setY_status : (s.setY v).status = s.status := rfl
@[simp] theorem setY_oamAddr : (s.setY v).oamAddr = s.oamAddr := rfl
@[simp] theorem setY_oam : (s.setY v).oam = s.oam := rfl
@[simp] theorem setY_scrollX : (s.setY v).scrollX = s.scrollX := rfl
@[simp] theorem setY_scrollY : (s.setY v).scrollY = s.scrollY := rfl
@[simp] theorem setY_vaddr : (s.setY v).vaddr = s.vaddr := rfl
@[simp] theorem setY_w : (s.setY v).w = s.w := rfl
@[simp] theorem setY_vram : (s.setY v).vram = s.vram := rfl
@[simp] theorem setY_pal : (s.setY v).pal = s.pal := rfl
@[simp] theorem setY_halted : (s.setY v).halted = s.halted := rfl
@[simp] theorem setY_statusIn : (s.setY v).statusIn = s.statusIn := rfl
end

section
variable (v : Byte)
@[simp] theorem setSp_a : (s.setSp v).a = s.a := rfl
@[simp] theorem setSp_x : (s.setSp v).x = s.x := rfl
@[simp] theorem setSp_y : (s.setSp v).y = s.y := rfl
@[simp] theorem setSp_sp : (s.setSp v).sp = v := rfl
@[simp] theorem setSp_p : (s.setSp v).p = s.p := rfl
@[simp] theorem setSp_pc : (s.setSp v).pc = s.pc := rfl
@[simp] theorem setSp_stack : (s.setSp v).stack = s.stack := rfl
@[simp] theorem setSp_wram : (s.setSp v).wram = s.wram := rfl
@[simp] theorem setSp_cram : (s.setSp v).cram = s.cram := rfl
@[simp] theorem setSp_prg : (s.setSp v).prg = s.prg := rfl
@[simp] theorem setSp_prgSize : (s.setSp v).prgSize = s.prgSize := rfl
@[simp] theorem setSp_chr : (s.setSp v).chr = s.chr := rfl
@[simp] theorem setSp_chrSize : (s.setSp v).chrSize = s.chrSize := rfl
@[simp] theorem setSp_ctrl : (s.setSp v).ctrl = s.ctrl := rfl
@[simp] theorem setSp_mask : (s.setSp v).mask = s.mask := rfl
@[simp] theorem setSp_status : (s.setSp v).status = s.status := rfl
@[simp] theorem setSp_oamAddr : (s.setSp v).oamAddr = s.oamAddr := rfl
@[simp] theorem setSp_oam : (s.setSp v).oam = s.oam := rfl
@[simp] theorem setSp_scrollX : (s.setSp v).scrollX = s.scrollX := rfl
@[simp] theorem setSp_scrollY : (s.setSp v).scrollY = s.scrollY := rfl
@[simp] theorem setSp_vaddr : (s.setSp v).vaddr = s.vaddr := rfl
@[simp] theorem setSp_w : (s.setSp v).w = s.w := rfl
@[simp] theorem setSp_vram : (s.setSp v).vram = s.vram := rfl
@[simp] theorem setSp_pal : (s.setSp v).pal = s.pal := rfl
@[simp] theorem setSp_halted : (s.setSp v).halted = s.halted := rfl
@[simp] theorem setSp_statusIn : (s.setSp v).statusIn = s.statusIn := rfl
end

section
variable (v : Byte)
@[simp] theorem setP_a : (s.setP v).a = s.a := rfl
@[simp] theorem setP_x : (s.setP v).x = s.x := rfl
@[simp] theorem setP_y : (s.setP v).y = s.y := rfl
@[simp] theorem setP_sp : (s.setP v).sp = s.sp := rfl
@[simp] theorem setP_p : (s.setP v).p = v := rfl
@[simp] theorem setP_pc : (s.setP v).pc = s.pc := rfl
@[simp] theorem setP_stack : (s.setP v).stack = s.stack := rfl
@[simp] theorem setP_wram : (s.setP v).wram = s.wram := rfl
@[simp] theorem setP_cram : (s.setP v).cram = s.cram := rfl
@[simp] theorem setP_prg : (s.setP v).prg = s.prg := rfl
@[simp] theorem setP_prgSize : (s.setP v).prgSize = s.prgSize := rfl
@[simp] theorem setP_chr : (s.setP v).chr = s.chr := rfl
@[simp] theorem setP_chrSize : (s.setP v).chrSize = s.chrSize := rfl
@[simp] theorem setP_ctrl : (s.setP v).ctrl = s.ctrl := rfl
@[simp] theorem setP_mask : (s.setP v).mask = s.mask := rfl
@[simp] theorem setP_status : (s.setP v).status = s.status := rfl
@[simp] theorem setP_oamAddr : (s.setP v).oamAddr = s.oamAddr := rfl
@[simp] theorem setP_oam : (s.setP v).oam = s.oam := rfl
@[simp] theorem setP_scrollX : (s.setP v).scrollX = s.scrollX := rfl
@[simp] theorem setP_scrollY : (s.setP v).scrollY = s.scrollY := rfl
@[simp] theorem setP_vaddr : (s.setP v).vaddr = s.vaddr := rfl
@[simp] theorem setP_w : (s.setP v).w = s.w := rfl
@[simp] theorem setP_vram : (s.setP v).vram = s.vram := rfl
@[simp] theorem setP_pal : (s.setP v).pal = s.pal := rfl
@[simp] theorem setP_halted : (s.setP v).halted = s.halted := rfl
@[simp] theorem setP_statusIn : (s.setP v).statusIn = s.statusIn := rfl
end

section
variable (v : Word)
@[simp] theorem setPc_a : (s.setPc v).a = s.a := rfl
@[simp] theorem setPc_x : (s.setPc v).x = s.x := rfl
@[simp] theorem setPc_y : (s.setPc v).y = s.y := rfl
@[simp] theorem setPc_sp : (s.setPc v).sp = s.sp := rfl
@[simp] theorem setPc_p : (s.setPc v).p = s.p := rfl
@[simp] theorem setPc_pc : (s.setPc v).pc = v := rfl
@[simp] theorem setPc_stack : (s.setPc v).stack = s.stack := rfl
@[simp] theorem setPc_wram : (s.setPc v).wram = s.wram := rfl
@[simp] theorem setPc_cram : (s.setPc v).cram = s.cram := rfl
@[simp] theorem setPc_prg : (s.setPc v).prg = s.prg := rfl
@[simp] theorem setPc_prgSize : (s.setPc v).prgSize = s.prgSize := rfl
@[simp] theorem setPc_chr : (s.setPc v).chr = s.chr := rfl
@[simp] theorem setPc_chrSize : (s.setPc v).chrSize = s.chrSize := rfl
@[simp] theorem setPc_ctrl : (s.setPc v).ctrl = s.ctrl := rfl
@[simp] theorem setPc_mask : (s.setPc v).mask = s.mask := rfl
@[simp] theorem setPc_status : (s.setPc v).status = s.status := rfl
@[simp] theorem setPc_oamAddr : (s.setPc v).oamAddr = s.oamAddr := rfl
@[simp] theorem setPc_oam : (s.setPc v).oam = s.oam := rfl
@[simp] theorem setPc_scrollX : (s.setPc v).scrollX = s.scrollX := rfl
@[simp] theorem setPc_scrollY : (s.setPc v).scrollY = s.scrollY := rfl
@[simp] theorem setPc_vaddr : (s.setPc v).vaddr = s.vaddr := rfl
@[simp] theorem setPc_w : (s.setPc v).w = s.w := rfl
@[simp] theorem setPc_vram : (s.setPc v).vram = s.vram := rfl
@[simp] theorem setPc_pal : (s.setPc v).pal = s.pal := rfl
@[simp] theorem setPc_halted : (s.setPc v).halted = s.halted := rfl
@[simp] theorem setPc_statusIn : (s.setPc v).statusIn = s.statusIn := rfl
end

section
variable (v : Memory)
@[simp] theorem setStack_a : (s.setStack v).a = s.a := rfl
@[simp] theorem setStack_x : (s.setStack v).x = s.x := rfl
@[simp] theorem setStack_y : (s.setStack v).y = s.y := rfl
@[simp] theorem setStack_sp : (s.setStack v).sp = s.sp := rfl
@[simp] theorem setStack_p : (s.setStack v).p = s.p := rfl
@[simp] theorem setStack_pc : (s.setStack v).pc = s.pc := rfl
@[simp] theorem setStack_stack : (s.setStack v).stack = v := rfl
@[simp] theorem setStack_wram : (s.setStack v).wram = s.wram := rfl
@[simp] theorem setStack_cram : (s.setStack v).cram = s.cram := rfl
@[simp] theorem setStack_prg : (s.setStack v).prg = s.prg := rfl
@[simp] theorem setStack_prgSize : (s.setStack v).prgSize = s.prgSize := rfl
@[simp] theorem setStack_chr : (s.setStack v).chr = s.chr := rfl
@[simp] theorem setStack_chrSize : (s.setStack v).chrSize = s.chrSize := rfl
@[simp] theorem setStack_ctrl : (s.setStack v).ctrl = s.ctrl := rfl
@[simp] theorem setStack_mask : (s.setStack v).mask = s.mask := rfl
@[simp] theorem setStack_status : (s.setStack v).status = s.status := rfl
@[simp] theorem setStack_oamAddr : (s.setStack v).oamAddr = s.oamAddr := rfl
@[simp] theorem setStack_oam : (s.setStack v).oam = s.oam := rfl
@[simp] theorem setStack_scrollX : (s.setStack v).scrollX = s.scrollX := rfl
@[simp] theorem setStack_scrollY : (s.setStack v).scrollY = s.scrollY := rfl
@[simp] theorem setStack_vaddr : (s.setStack v).vaddr = s.vaddr := rfl
@[simp] theorem setStack_w : (s.setStack v).w = s.w := rfl
@[simp] theorem setStack_vram : (s.setStack v).vram = s.vram := rfl
@[simp] theorem setStack_pal : (s.setStack v).pal = s.pal := rfl
@[simp] theorem setStack_halted : (s.setStack v).halted = s.halted := rfl
@[simp] theorem setStack_statusIn : (s.setStack v).statusIn = s.statusIn := rfl
end

section
variable (v : Memory)
@[simp] theorem setWram_a : (s.setWram v).a = s.a := rfl
@[simp] theorem setWram_x : (s.setWram v).x = s.x := rfl
@[simp] theorem setWram_y : (s.setWram v).y = s.y := rfl
@[simp] theorem setWram_sp : (s.setWram v).sp = s.sp := rfl
@[simp] theorem setWram_p : (s.setWram v).p = s.p := rfl
@[simp] theorem setWram_pc : (s.setWram v).pc = s.pc := rfl
@[simp] theorem setWram_stack : (s.setWram v).stack = s.stack := rfl
@[simp] theorem setWram_wram : (s.setWram v).wram = v := rfl
@[simp] theorem setWram_cram : (s.setWram v).cram = s.cram := rfl
@[simp] theorem setWram_prg : (s.setWram v).prg = s.prg := rfl
@[simp] theorem setWram_prgSize : (s.setWram v).prgSize = s.prgSize := rfl
@[simp] theorem setWram_chr : (s.setWram v).chr = s.chr := rfl
@[simp] theorem setWram_chrSize : (s.setWram v).chrSize = s.chrSize := rfl
@[simp] theorem setWram_ctrl : (s.setWram v).ctrl = s.ctrl := rfl
@[simp] theorem setWram_mask : (s.setWram v).mask = s.mask := rfl
@[simp] theorem setWram_status : (s.setWram v).status = s.status := rfl
@[simp] theorem setWram_oamAddr : (s.setWram v).oamAddr = s.oamAddr := rfl
@[simp] theorem setWram_oam : (s.setWram v).oam = s.oam := rfl
@[simp] theorem setWram_scrollX : (s.setWram v).scrollX = s.scrollX := rfl
@[simp] theorem setWram_scrollY : (s.setWram v).scrollY = s.scrollY := rfl
@[simp] theorem setWram_vaddr : (s.setWram v).vaddr = s.vaddr := rfl
@[simp] theorem setWram_w : (s.setWram v).w = s.w := rfl
@[simp] theorem setWram_vram : (s.setWram v).vram = s.vram := rfl
@[simp] theorem setWram_pal : (s.setWram v).pal = s.pal := rfl
@[simp] theorem setWram_halted : (s.setWram v).halted = s.halted := rfl
@[simp] theorem setWram_statusIn : (s.setWram v).statusIn = s.statusIn := rfl
end

section
variable (v : Memory)
@[simp] theorem setCram_a : (s.setCram v).a = s.a := rfl
@[simp] theorem setCram_x : (s.setCram v).x = s.x := rfl
@[simp] theorem setCram_y : (s.setCram v).y = s.y := rfl
@[simp] theorem setCram_sp : (s.setCram v).sp = s.sp := rfl
@[simp] theorem setCram_p : (s.setCram v).p = s.p := rfl
@[simp] theorem setCram_pc : (s.setCram v).pc = s.pc := rfl
@[simp] theorem setCram_stack : (s.setCram v).stack = s.stack := rfl
@[simp] theorem setCram_wram : (s.setCram v).wram = s.wram := rfl
@[simp] theorem setCram_cram : (s.setCram v).cram = v := rfl
@[simp] theorem setCram_prg : (s.setCram v).prg = s.prg := rfl
@[simp] theorem setCram_prgSize : (s.setCram v).prgSize = s.prgSize := rfl
@[simp] theorem setCram_chr : (s.setCram v).chr = s.chr := rfl
@[simp] theorem setCram_chrSize : (s.setCram v).chrSize = s.chrSize := rfl
@[simp] theorem setCram_ctrl : (s.setCram v).ctrl = s.ctrl := rfl
@[simp] theorem setCram_mask : (s.setCram v).mask = s.mask := rfl
@[simp] theorem setCram_status : (s.setCram v).status = s.status := rfl
@[simp] theorem setCram_oamAddr : (s.setCram v).oamAddr = s.oamAddr := rfl
@[simp] theorem setCram_oam : (s.setCram v).oam = s.oam := rfl
@[simp] theorem setCram_scrollX : (s.setCram v).scrollX = s.scrollX := rfl
@[simp] theorem setCram_scrollY : (s.setCram v).scrollY = s.scrollY := rfl
@[simp] theorem setCram_vaddr : (s.setCram v).vaddr = s.vaddr := rfl
@[simp] theorem setCram_w : (s.setCram v).w = s.w := rfl
@[simp] theorem setCram_vram : (s.setCram v).vram = s.vram := rfl
@[simp] theorem setCram_pal : (s.setCram v).pal = s.pal := rfl
@[simp] theorem setCram_halted : (s.setCram v).halted = s.halted := rfl
@[simp] theorem setCram_statusIn : (s.setCram v).statusIn = s.statusIn := rfl
end

section
variable (v : Memory)
@[simp] theorem setPrg_a : (s.setPrg v).a = s.a := rfl
@[simp] theorem setPrg_x : (s.setPrg v).x = s.x := rfl
@[simp] theorem setPrg_y : (s.setPrg v).y = s.y := rfl
@[simp] theorem setPrg_sp : (s.setPrg v).sp = s.sp := rfl
@[simp] theorem setPrg_p : (s.setPrg v).p = s.p := rfl
@[simp] theorem setPrg_pc : (s.setPrg v).pc = s.pc := rfl
@[simp] theorem setPrg_stack : (s.setPrg v).stack = s.stack := rfl
@[simp] theorem setPrg_wram : (s.setPrg v).wram = s.wram := rfl
@[simp] theorem setPrg_cram : (s.setPrg v).cram = s.cram := rfl
@[simp] theorem setPrg_prg : (s.setPrg v).prg = v := rfl
@[simp] theorem setPrg_prgSize : (s.setPrg v).prgSize = s.prgSize := rfl
@[simp] theorem setPrg_chr : (s.setPrg v).chr = s.chr := rfl
@[simp] theorem setPrg_chrSize : (s.setPrg v).chrSize = s.chrSize := rfl
@[simp] theorem setPrg_ctrl : (s.setPrg v).ctrl = s.ctrl := rfl
@[simp] theorem setPrg_mask : (s.setPrg v).mask = s.mask := rfl
@[simp] theorem setPrg_status : (s.setPrg v).status = s.status := rfl
@[simp] theorem setPrg_oamAddr : (s.setPrg v).oamAddr = s.oamAddr := rfl
@[simp] theorem setPrg_oam : (s.setPrg v).oam = s.oam := rfl
@[simp] theorem setPrg_scrollX : (s.setPrg v).scrollX = s.scrollX := rfl
@[simp] theorem setPrg_scrollY : (s.setPrg v).scrollY = s.scrollY := rfl
@[simp] theorem setPrg_vaddr : (s.setPrg v).vaddr = s.vaddr := rfl
@[simp] theorem setPrg_w : (s.setPrg v).w = s.w := rfl
@[simp] theorem setPrg_vram : (s.setPrg v).vram = s.vram := rfl
@[simp] theorem setPrg_pal : (s.setPrg v).pal = s.pal := rfl
@[simp] theorem setPrg_halted : (s.setPrg v).halted = s.halted := rfl
@[simp] theorem setPrg_statusIn : (s.setPrg v).statusIn = s.statusIn := rfl
end

section
variable (v : Byte)
@[simp] theorem setCtrl_a : (s.setCtrl v).a = s.a := rfl
@[simp] theorem setCtrl_x : (s.setCtrl v).x = s.x := rfl
@[simp] theorem setCtrl_y : (s.setCtrl v).y = s.y := rfl
@[simp] theorem setCtrl_sp : (s.setCtrl v).sp = s.sp := rfl
@[simp] theorem setCtrl_p : (s.setCtrl v).p = s.p := rfl
@[simp] theorem setCtrl_pc : (s.setCtrl v).pc = s.pc := rfl
@[simp] theorem setCtrl_stack : (s.setCtrl v).stack = s.stack := rfl
@[simp] theorem setCtrl_wram : (s.setCtrl v).wram = s.wram := rfl
@[simp] theorem setCtrl_cram : (s.setCtrl v).cram = s.cram := rfl
@[simp] theorem setCtrl_prg : (s.setCtrl v).prg = s.prg := rfl
@[simp] theorem setCtrl_prgSize : (s.setCtrl v).prgSize = s.prgSize := rfl
@[simp] theorem setCtrl_chr : (s.setCtrl v).chr = s.chr := rfl
@[simp] theorem setCtrl_chrSize : (s.setCtrl v).chrSize = s.chrSize := rfl
@[simp] theorem setCtrl_ctrl : (s.setCtrl v).ctrl = v := rfl
@[simp] theorem setCtrl_mask : (s.setCtrl v).mask = s.mask := rfl
@[simp] theorem setCtrl_status : (s.setCtrl v).status = s.status := rfl
@[simp] theorem setCtrl_oamAddr : (s.setCtrl v).oamAddr = s.oamAddr := rfl
@[simp] theorem setCtrl_oam : (s.setCtrl v).oam = s.oam := rfl
@[simp] theorem setCtrl_scrollX : (s.setCtrl v).scrollX = s.scrollX := rfl
@[simp] theorem setCtrl_scrollY : (s.setCtrl v).scrollY = s.scrollY := rfl
@[simp] theorem setCtrl_vaddr : (s.setCtrl v).vaddr = s.vaddr := rfl
@[simp] theorem setCtrl_w : (s.setCtrl v).w = s.w := rfl
@[simp] theorem setCtrl_vram : (s.setCtrl v).vram = s.vram := rfl
@[simp] theorem setCtrl_pal : (s.setCtrl v).pal = s.pal := rfl
@[simp] theorem setCtrl_halted : (s.setCtrl v).halted = s.halted := rfl
@[simp] theorem setCtrl_statusIn : (s.setCtrl v).statusIn = s.statusIn := rfl
end

section
variable (v : Byte)
@[simp] theorem setMask_a : (s.setMask v).a = s.a := rfl
@[simp] theorem setMask_x : (s.setMask v).x = s.x := rfl
@[simp] theorem setMask_y : (s.setMask v).y = s.y := rfl
@[simp] theorem setMask_sp : (s.setMask v).sp = s.sp := rfl
@[simp] theorem setMask_p : (s.setMask v).p = s.p := rfl
@[simp] theorem setMask_pc : (s.setMask v).pc = s.pc := rfl
@[simp] theorem setMask_stack : (s.setMask v).stack = s.stack := rfl
@[simp] theorem setMask_wram : (s.setMask v).wram = s.wram := rfl
@[simp] theorem setMask_cram : (s.setMask v).cram = s.cram := rfl
@[simp] theorem setMask_prg : (s.setMask v).prg = s.prg := rfl
@[simp] theorem setMask_prgSize : (s.setMask v).prgSize = s.prgSize := rfl
@[simp] theorem setMask_chr : (s.setMask v).chr = s.chr := rfl
@[simp] theorem setMask_chrSize : (s.setMask v).chrSize = s.chrSize := rfl
@[simp] theorem setMask_ctrl : (s.setMask v).ctrl = s.ctrl := rfl
@[simp] theorem setMask_mask : (s.setMask v).mask = v := rfl
@[simp] theorem setMask_status : (s.setMask v).status = s.status := rfl
@[simp] theorem setMask_oamAddr : (s.setMask v).oamAddr = s.oamAddr := rfl
@[simp] theorem setMask_oam : (s.setMask v).oam = s.oam := rfl
@[simp] theorem setMask_scrollX : (s.setMask v).scrollX = s.scrollX := rfl
@[simp] theorem setMask_scrollY : (s.setMask v).scrollY = s.scrollY := rfl
@[simp] theorem setMask_vaddr : (s.setMask v).vaddr = s.vaddr := rfl
@[simp] theorem setMask_w : (s.setMask v).w = s.w := rfl
@[simp] theorem setMask_vram : (s.setMask v).vram = s.vram := rfl
@[simp] theorem setMask_pal : (s.setMask v).pal = s.pal := rfl
@[simp] theorem setMask_halted : (s.setMask v).halted = s.halted := rfl
@[simp] theorem setMask_statusIn : (s.setMask v).statusIn = s.statusIn := rfl
end

section
variable (v : Byte)
@[simp] theorem setStatus_a : (s.setStatus v).a = s.a := rfl
@[simp] theorem setStatus_x : (s.setStatus v).x = s.x := rfl
@[simp] theorem setStatus_y : (s.setStatus v).y = s.y := rfl
@[simp] theorem setStatus_sp : (s.setStatus v).sp = s.sp := rfl
@[simp] theorem setStatus_p : (s.setStatus v).p = s.p := rfl
@[simp] theorem setStatus_pc : (s.setStatus v).pc = s.pc := rfl
@[simp] theorem setStatus_stack : (s.setStatus v).stack = s.stack := rfl
@[simp] theorem setStatus_wram : (s.setStatus v).wram = s.wram := rfl
@[simp] theorem setStatus_cram : (s.setStatus v).cram = s.cram := rfl
@[simp] theorem setStatus_prg : (s.setStatus v).prg = s.prg := rfl
@[simp] theorem setStatus_prgSize : (s.setStatus v).prgSize = s.prgSize := rfl
@[simp] theorem setStatus_chr : (s.setStatus v).chr = s.chr := rfl
@[simp] theorem setStatus_chrSize : (s.setStatus v).chrSize = s.chrSize := rfl
@[simp] theorem setStatus_ctrl : (s.setStatus v).ctrl = s.ctrl := rfl
@[simp] theorem setStatus_mask : (s.setStatus v).mask = s.mask := rfl
@[simp] theorem setStatus_status : (s.setStatus v).status = v := rfl
@[simp] theorem setStatus_oamAddr : (s.setStatus v).oamAddr = s.oamAddr := rfl
@[simp] theorem setStatus_oam : (s.setStatus v).oam = s.oam := rfl
@[simp] theorem setStatus_scrollX : (s.setStatus v).scrollX = s.scrollX := rfl
@[simp] theorem setStatus_scrollY : (s.setStatus v).scrollY = s.scrollY := rfl
@[simp] theorem setStatus_vaddr : (s.setStatus v).vaddr = s.vaddr := rfl
@[simp] theorem setStatus_w : (s.setStatus v).w = s.w := rfl
@[simp] theorem setStatus_vram : (s.setStatus v).vram = s.vram := rfl
@[simp] theorem setStatus_pal : (s.setStatus v).pal = s.pal := rfl
@[simp] theorem setStatus_halted : (s.setStatus v).halted = s.halted := rfl
@[simp] theorem setStatus_statusIn : (s.setStatus v).statusIn = s.statusIn := rfl
end

section
variable (v : Byte)
@[simp] theorem setOamAddr_a : (s.setOamAddr v).a = s.a := rfl
@[simp] theorem setOamAddr_x : (s.setOamAddr v).x = s.x := rfl
@[simp] theorem setOamAddr_y : (s.setOamAddr v).y = s.y := rfl
@[simp] theorem setOamAddr_sp : (s.setOamAddr v).sp = s.sp := rfl
@[simp] theorem setOamAddr_p : (s.setOamAddr v).p = s.p := rfl
@[simp] theorem setOamAddr_pc : (s.setOamAddr v).pc = s.pc := rfl
@[simp] theorem setOamAddr_stack : (s.setOamAddr v).stack = s.stack := rfl
@[simp] theorem setOamAddr_wram : (s.setOamAddr v).wram = s.wram := rfl
@[simp] theorem setOamAddr_cram : (s.setOamAddr v).cram = s.cram := rfl
@[simp] theorem setOamAddr_prg : (s.setOamAddr v).prg = s.prg := rfl
@[simp] theorem setOamAddr_prgSize : (s.setOamAddr v).prgSize = s.prgSize := rfl
@[simp] theorem setOamAddr_chr : (s.setOamAddr v).chr = s.chr := rfl
@[simp] theorem setOamAddr_chrSize : (s.setOamAddr v).chrSize = s.chrSize := rfl
@[simp] theorem setOamAddr_ctrl : (s.setOamAddr v).ctrl = s.ctrl := rfl
@[simp] theorem setOamAddr_mask : (s.setOamAddr v).mask = s.mask := rfl
@[simp] theorem setOamAddr_status : (s.setOamAddr v).status = s.status := rfl
@[simp] theorem setOamAddr_oamAddr : (s.setOamAddr v).oamAddr = v := rfl
@[simp] theorem setOamAddr_oam : (s.setOamAddr v).oam = s.oam := rfl
@[simp] theorem setOamAddr_scrollX : (s.setOamAddr v).scrollX = s.scrollX := rfl
@[simp] theorem setOamAddr_scrollY : (s.setOamAddr v).scrollY = s.scrollY := rfl
@[simp] theorem setOamAddr_vaddr : (s.setOamAddr v).vaddr = s.vaddr := rfl
@[simp] theorem setOamAddr_w : (s.setOamAddr v).w = s.w := rfl
@[simp] theorem setOamAddr_vram : (s.setOamAddr v).vram = s.vram := rfl
@[simp] theorem setOamAddr_pal : (s.setOamAddr v).pal = s.pal := rfl
@[simp] theorem setOamAddr_halted : (s.setOamAddr v).halted = s.halted := rfl
@[simp] theorem setOamAddr_statusIn : (s.setOamAddr v).statusIn = s.statusIn := rfl
end

section
variable (v : Memory)
@[simp] theorem setOam_a : (s.setOam v).a = s.a := rfl
@[simp] theorem setOam_x : (s.setOam v).x = s.x := rfl
@[simp] theorem setOam_y : (s.setOam v).y = s.y := rfl
@[simp] theorem setOam_sp : (s.setOam v).sp = s.sp := rfl
@[simp] theorem setOam_p : (s.setOam v).p = s.p := rfl
@[simp] theorem setOam_pc : (s.setOam v).pc = s.pc := rfl
@[simp] theorem setOam_stack : (s.setOam v).stack = s.stack := rfl
@[simp] theorem setOam_wram : (s.setOam v).wram = s.wram := rfl
@[simp] theorem setOam_cram : (s.setOam v).cram = s.cram := rfl
@[simp] theorem setOam_prg : (s.setOam v).prg = s.prg := rfl
@[simp] theorem setOam_prgSize : (s.setOam v).prgSize = s.prgSize := rfl
@[simp] theorem setOam_chr : (s.setOam v).chr = s.chr := rfl
@[simp] theorem setOam_chrSize : (s.setOam v).chrSize = s.chrSize := rfl
@[simp] theorem setOam_ctrl : (s.setOam v).ctrl = s.ctrl := rfl
@[simp] theorem setOam_mask : (s.setOam v).mask = s.mask := rfl
@[simp] theorem setOam_status : (s.setOam v).status = s.status := rfl
@[simp] theorem setOam_oamAddr : (s.setOam v).oamAddr = s.oamAddr := rfl
@[simp] theorem setOam_oam : (s.setOam v).oam = v := rfl
@[simp] theorem setOam_scrollX : (s.setOam v).scrollX = s.scrollX := rfl
@[simp] theorem setOam_scrollY : (s.setOam v).scrollY = s.scrollY := rfl
@[simp] theorem setOam_vaddr : (s.setOam v).vaddr = s.vaddr := rfl
@[simp] theorem setOam_w : (s.setOam v).w = s.w := rfl
@[simp] theorem setOam_vram : (s.setOam v).vram = s.vram := rfl
@[simp] theorem setOam_pal : (s.setOam v).pal = s.pal := rfl
@[simp] theorem setOam_halted : (s.setOam v).halted = s.halted := rfl
@[simp] theorem setOam_statusIn : (s.setOam v).statusIn = s.statusIn := rfl
end

section
variable (v : Byte)
@[simp] theorem setScrollX_a : (s.setScrollX v).a = s.a := rfl
@[simp] theorem setScrollX_x : (s.setScrollX v).x = s.x := rfl
@[simp] theorem setScrollX_y : (s.setScrollX v).y = s.y := rfl
@[simp] theorem setScrollX_sp : (s.setScrollX v).sp = s.sp := rfl
@[simp] theorem setScrollX_p : (s.setScrollX v).p = s.p := rfl
@[simp] theorem setScrollX_pc : (s.setScrollX v).pc = s.pc := rfl
@[simp] theorem setScrollX_stack : (s.setScrollX v).stack = s.stack := rfl
@[simp] theorem setScrollX_wram : (s.setScrollX v).wram = s.wram := rfl
@[simp] theorem setScrollX_cram : (s.setScrollX v).cram = s.cram := rfl
@[simp] theorem setScrollX_prg : (s.setScrollX v).prg = s.prg := rfl
@[simp] theorem setScrollX_prgSize : (s.setScrollX v).prgSize = s.prgSize := rfl
@[simp] theorem setScrollX_chr : (s.setScrollX v).chr = s.chr := rfl
@[simp] theorem setScrollX_chrSize : (s.setScrollX v).chrSize = s.chrSize := rfl
@[simp] theorem setScrollX_ctrl : (s.setScrollX v).ctrl = s.ctrl := rfl
@[simp] theorem setScrollX_mask : (s.setScrollX v).mask = s.mask := rfl
@[simp] theorem setScrollX_status : (s.setScrollX v).status = s.status := rfl
@[simp] theorem setScrollX_oamAddr : (s.setScrollX v).oamAddr = s.oamAddr := rfl
@[simp] theorem setScrollX_oam : (s.setScrollX v).oam = s.oam := rfl
@[simp] theorem setScrollX_scrollX : (s.setScrollX v).scrollX = v := rfl
@[simp] theorem setScrollX_scrollY : (s.setScrollX v).scrollY = s.scrollY := rfl
@[simp] theorem setScrollX_vaddr : (s.setScrollX v).vaddr = s.vaddr := rfl
@[simp] theorem setScrollX_w : (s.setScrollX v).w = s.w := rfl
@[simp] theorem setScrollX_vram : (s.setScrollX v).vram = s.vram := rfl
@[simp] theorem setScrollX_pal : (s.setScrollX v).pal = s.pal := rfl
@[simp] theorem setScrollX_halted : (s.setScrollX v).halted = s.halted := rfl
@[simp] theorem setScrollX_statusIn : (s.setScrollX v).statusIn = s.statusIn := rfl
end

section
variable (v : Byte)
@[simp] theorem setScrollY_a : (s.setScrollY v).a = s.a := rfl
@[simp] theorem setScrollY_x : (s.setScrollY v).x = s.x := rfl
@[simp] theorem setScrollY_y : (s.setScrollY v).y = s.y := rfl
@[simp] theorem setScrollY_sp : (s.setScrollY v).sp = s.sp := rfl
@[simp] theorem setScrollY_p : (s.setScrollY v).p = s.p := rfl
@[simp] theorem setScrollY_pc : (s.setScrollY v).pc = s.pc := rfl
@[simp] theorem setScrollY_stack : (s.setScrollY v).stack = s.stack := rfl
@[simp] theorem setScrollY_wram : (s.setScrollY v).wram = s.wram := rfl
@[simp] theorem setScrollY_cram : (s.setScrollY v).cram = s.cram := rfl
@[simp] theorem setScrollY_prg : (s.setScrollY v).prg = s.prg := rfl
@[simp] theorem setScrollY_prgSize : (s.setScrollY v).prgSize = s.prgSize := rfl
@[simp] theorem setScrollY_chr : (s.setScrollY v).chr = s.chr := rfl
@[simp] theorem setScrollY_chrSize : (s.setScrollY v).chrSize = s.chrSize := rfl
@[simp] theorem setScrollY_ctrl : (s.setScrollY v).ctrl = s.ctrl := rfl
@[simp] theorem setScrollY_mask : (s.setScrollY v).mask = s.mask := rfl
@[simp] theorem setScrollY_status : (s.setScrollY v).status = s.status := rfl
@[simp] theorem setScrollY_oamAddr : (s.setScrollY v).oamAddr = s.oamAddr := rfl
@[simp] theorem setScrollY_oam : (s.setScrollY v).oam = s.oam := rfl
@[simp] theorem setScrollY_scrollX : (s.setScrollY v).scrollX = s.scrollX := rfl
@[simp] theorem setScrollY_scrollY : (s.setScrollY v).scrollY = v := rfl
@[simp] theorem setScrollY_vaddr : (s.setScrollY v).vaddr = s.vaddr := rfl
@[simp] theorem setScrollY_w : (s.setScrollY v).w = s.w := rfl
@[simp] theorem setScrollY_vram : (s.setScrollY v).vram = s.vram := rfl
@[simp] theorem setScrollY_pal : (s.setScrollY v).pal = s.pal := rfl
@[simp] theorem setScrollY_halted : (s.setScrollY v).halted = s.halted := rfl
@[simp] theorem setScrollY_statusIn : (s.setScrollY v).statusIn = s.statusIn := rfl
end

section
variable (v : Word)
@[simp] theorem setVaddr_a : (s.setVaddr v).a = s.a := rfl
@[simp] theorem setVaddr_x : (s.setVaddr v).x = s.x := rfl
@[simp] theorem setVaddr_y : (s.setVaddr v).y = s.y := rfl
@[simp] theorem setVaddr_sp : (s.setVaddr v).sp = s.sp := rfl
@[simp] theorem setVaddr_p : (s.setVaddr v).p = s.p := rfl
@[simp] theorem setVaddr_pc : (s.setVaddr v).pc = s.pc := rfl
@[simp] theorem setVaddr_stack : (s.setVaddr v).stack = s.stack := rfl
@[simp] theorem setVaddr_wram : (s.setVaddr v).wram = s.wram := rfl
@[simp] theorem setVaddr_cram : (s.setVaddr v).cram = s.cram := rfl
@[simp] theorem setVaddr_prg : (s.setVaddr v).prg = s.prg := rfl
@[simp] theorem setVaddr_prgSize : (s.setVaddr v).prgSize = s.prgSize := rfl
@[simp] theorem setVaddr_chr : (s.setVaddr v).chr = s.chr := rfl
@[simp] theorem setVaddr_chrSize : (s.setVaddr v).chrSize = s.chrSize := rfl
@[simp] theorem setVaddr_ctrl : (s.setVaddr v).ctrl = s.ctrl := rfl
@[simp] theorem setVaddr_mask : (s.setVaddr v).mask = s.mask := rfl
@[simp] theorem setVaddr_status : (s.setVaddr v).status = s.status := rfl
@[simp] theorem setVaddr_oamAddr : (s.setVaddr v).oamAddr = s.oamAddr := rfl
@[simp] theorem setVaddr_oam : (s.setVaddr v).oam = s.oam := rfl
@[simp] theorem setVaddr_scrollX : (s.setVaddr v).scrollX = s.scrollX := rfl
@[simp] theorem setVaddr_scrollY : (s.setVaddr v).scrollY = s.scrollY := rfl
@[simp] theorem setVaddr_vaddr : (s.setVaddr v).vaddr = v := rfl
@[simp] theorem setVaddr_w : (s.setVaddr v).w = s.w := rfl
@[simp] theorem setVaddr_vram : (s.setVaddr v).vram = s.vram := rfl
@[simp] theorem setVaddr_pal : (s.setVaddr v).pal = s.pal := rfl
@[simp] theorem setVaddr_halted : (s.setVaddr v).halted = s.halted := rfl
@[simp] theorem setVaddr_statusIn : (s.setVaddr v).statusIn = s.statusIn := rfl
end

section
variable (v : Bool)
@[simp] theorem setW_a : (s.setW v).a = s.a := rfl
@[simp] theorem setW_x : (s.setW v).x = s.x := rfl
@[simp] theorem setW_y : (s.setW v).y = s.y := rfl
@[simp] theorem setW_sp : (s.setW v).sp = s.sp := rfl
@[simp] theorem setW_p : (s.setW v).p = s.p := rfl
@[simp] theorem setW_pc : (s.setW v).pc = s.pc := rfl
@[simp] theorem setW_stack : (s.setW v).stack = s.stack := rfl
@[simp] theorem setW_wram : (s.setW v).wram = s.wram := rfl
@[simp] theorem setW_cram : (s.setW v).cram = s.cram := rfl
@[simp] theorem setW_prg : (s.setW v).prg = s.prg := rfl
@[simp] theorem setW_prgSize : (s.setW v).prgSize = s.prgSize := rfl
@[simp] theorem setW_chr : (s.setW v).chr = s.chr := rfl
@[simp] theorem setW_chrSize : (s.setW v).chrSize = s.chrSize := rfl
@[simp] theorem setW_ctrl : (s.setW v).ctrl = s.ctrl := rfl
@[simp] theorem setW_mask : (s.setW v).mask = s.mask := rfl
@[simp] theorem setW_status : (s.setW v).status = s.status := rfl
@[simp] theorem setW_oamAddr : (s.setW v).oamAddr = s.oamAddr := rfl
@[simp] theorem setW_oam : (s.setW v).oam = s.oam := rfl
@[simp] theorem setW_scrollX : (s.setW v).scrollX = s.scrollX := rfl
@[simp] theorem setW_scrollY : (s.setW v).scrollY = s.scrollY := rfl
@[simp] theorem setW_vaddr : (s.setW v).vaddr = s.vaddr := rfl
@[simp] theorem setW_w : (s.setW v).w = v := rfl
@[simp] theorem setW_vram : (s.setW v).vram = s.vram := rfl
@[simp] theorem setW_pal : (s.setW v).pal = s.pal := rfl
@[simp] theorem setW_halted : (s.setW v).halted = s.halted := rfl
@[simp] theorem setW_statusIn : (s.setW v).statusIn = s.statusIn := rfl
end

section
variable (v : Memory)
@[simp] theorem setVram_a : (s.setVram v).a = s.a := rfl
@[simp] theorem setVram_x : (s.setVram v).x = s.x := rfl
@[simp] theorem setVram_y : (s.setVram v).y = s.y := rfl
@[simp] theorem setVram_sp : (s.setVram v).sp = s.sp := rfl
@[simp] theorem setVram_p : (s.setVram v).p = s.p := rfl
@[simp] theorem setVram_pc : (s.setVram v).pc = s.pc := rfl
@[simp] theorem setVram_stack : (s.setVram v).stack = s.stack := rfl
@[simp] theorem setVram_wram : (s.setVram v).wram = s.wram := rfl
@[simp] theorem setVram_cram : (s.setVram v).cram = s.cram := rfl
@[simp] theorem setVram_prg : (s.setVram v).prg = s.prg := rfl
@[simp] theorem setVram_prgSize : (s.setVram v).prgSize = s.prgSize := rfl
@[simp] theorem setVram_chr : (s.setVram v).chr = s.chr := rfl
@[simp] theorem setVram_chrSize : (s.setVram v).chrSize = s.chrSize := rfl
@[simp] theorem setVram_ctrl : (s.setVram v).ctrl = s.ctrl := rfl
@[simp] theorem setVram_mask : (s.setVram v).mask = s.mask := rfl
@[simp] theorem setVram_status : (s.setVram v).status = s.status := rfl
@[simp] theorem setVram_oamAddr : (s.setVram v).oamAddr = s.oamAddr := rfl
@[simp] theorem setVram_oam : (s.setVram v).oam = s.oam := rfl
@[simp] theorem setVram_scrollX : (s.setVram v).scrollX = s.scrollX := rfl
@[simp] theorem setVram_scrollY : (s.setVram v).scrollY = s.scrollY := rfl
@[simp] theorem setVram_vaddr : (s.setVram v).vaddr = s.vaddr := rfl
@[simp] theorem setVram_w : (s.setVram v).w = s.w := rfl
@[simp] theorem setVram_vram : (s.setVram v).vram = v := rfl
@[simp] theorem setVram_pal : (s.setVram v).pal = s.pal := rfl
@[simp] theorem setVram_halted : (s.setVram v).halted = s.halted := rfl
@[simp] theorem setVram_statusIn : (s.setVram v).statusIn = s.statusIn := rfl
end

section
variable (v : Memory)
@[simp] theorem setPal_a : (s.setPal v).a = s.a := rfl
@[simp] theorem setPal_x : (s.setPal v).x = s.x := rfl
@[simp] theorem setPal_y : (s.setPal v).y = s.y := rfl
@[simp] theorem setPal_sp : (s.setPal v).sp = s.sp := rfl
@[simp] theorem setPal_p : (s.setPal v).p = s.p := rfl
@[simp] theorem setPal_pc : (s.setPal v).pc = s.pc := rfl
@[simp] theorem setPal_stack : (s.setPal v).stack = s.stack := rfl
@[simp] theorem setPal_wram : (s.setPal v).wram = s.wram := rfl
@[simp] theorem setPal_cram : (s.setPal v).cram = s.cram := rfl
@[simp] theorem setPal_prg : (s.setPal v).prg = s.prg := rfl
@[simp] theorem setPal_prgSize : (s.setPal v).prgSize = s.prgSize := rfl
@[simp] theorem setPal_chr : (s.setPal v).chr = s.chr := rfl
@[simp] theorem setPal_chrSize : (s.setPal v).chrSize = s.chrSize := rfl
@[simp] theorem setPal_ctrl : (s.setPal v).ctrl = s.ctrl := rfl
@[simp] theorem setPal_mask : (s.setPal v).mask = s.mask := rfl
@[simp] theorem setPal_status : (s.setPal v).status = s.status := rfl
@[simp] theorem setPal_oamAddr : (s.setPal v).oamAddr = s.oamAddr := rfl
@[simp] theorem setPal_oam : (s.setPal v).oam = s.oam := rfl
@[simp] theorem setPal_scrollX : (s.setPal v).scrollX = s.scrollX := rfl
@[simp] theorem setPal_scrollY : (s.setPal v).scrollY = s.scrollY := rfl
@[simp] theorem setPal_vaddr : (s.setPal v).vaddr = s.vaddr := rfl
@[simp] theorem setPal_w : (s.setPal v).w = s.w := rfl
@[simp] theorem setPal_vram : (s.setPal v).vram = s.vram := rfl
@[simp] theorem setPal_pal : (s.setPal v).pal = v := rfl
@[simp] theorem setPal_halted : (s.setPal v).halted = s.halted := rfl
@[simp] theorem setPal_statusIn : (s.setPal v).statusIn = s.statusIn := rfl
end

section
variable (v : RunStatus)
@[simp] theorem setHalted_a : (s.setHalted v).a = s.a := rfl
@[simp] theorem setHalted_x : (s.setHalted v).x = s.x := rfl
@[simp] theorem setHalted_y : (s.setHalted v).y = s.y := rfl
@[simp] theorem setHalted_sp : (s.setHalted v).sp = s.sp := rfl
@[simp] theorem setHalted_p : (s.setHalted v).p = s.p := rfl
@[simp] theorem setHalted_pc : (s.setHalted v).pc = s.pc := rfl
@[simp] theorem setHalted_stack : (s.setHalted v).stack = s.stack := rfl
@[simp] theorem setHalted_wram : (s.setHalted v).wram = s.wram := rfl
@[simp] theorem setHalted_cram : (s.setHalted v).cram = s.cram := rfl
@[simp] theorem setHalted_prg : (s.setHalted v).prg = s.prg := rfl
@[simp] theorem setHalted_prgSize : (s.setHalted v).prgSize = s.prgSize := rfl
@[simp] theorem setHalted_chr : (s.setHalted v).chr = s.chr := rfl
@[simp] theorem setHalted_chrSize : (s.setHalted v).chrSize = s.chrSize := rfl
@[simp] theorem setHalted_ctrl : (s.setHalted v).ctrl = s.ctrl := rfl
@[simp] theorem setHalted_mask : (s.setHalted v).mask = s.mask := rfl
@[simp] theorem setHalted_status : (s.setHalted v).status = s.status := rfl
@[simp] theorem setHalted_oamAddr : (s.setHalted v).oamAddr = s.oamAddr := rfl
@[simp] theorem setHalted_oam : (s.setHalted v).oam = s.oam := rfl
@[simp] theorem setHalted_scrollX : (s.setHalted v).scrollX = s.scrollX := rfl
@[simp] theorem setHalted_scrollY : (s.setHalted v).scrollY = s.scrollY := rfl
@[simp] theorem setHalted_vaddr : (s.setHalted v).vaddr = s.vaddr := rfl
@[simp] theorem setHalted_w : (s.setHalted v).w = s.w := rfl
@[simp] theorem setHalted_vram : (s.setHalted v).vram = s.vram := rfl
@[simp] theorem setHalted_pal : (s.setHalted v).pal = s.pal := rfl
@[simp] theorem setHalted_halted : (s.setHalted v).halted = v := rfl
@[simp] theorem setHalted_statusIn : (s.setHalted v).statusIn = s.statusIn := rfl
end

section
variable (v : List Byte)
@[simp] theorem setStatusIn_a : (s.setStatusIn v).a = s.a := rfl
@[simp] theorem setStatusIn_x : (s.setStatusIn v).x = s.x := rfl
@[simp] theorem setStatusIn_y : (s.setStatusIn v).y = s.y := rfl
@[simp] theorem setStatusIn_sp : (s.setStatusIn v).sp = s.sp := rfl
@[simp] theorem setStatusIn_p : (s.setStatusIn v).p = s.p := rfl
@[simp] theorem setStatusIn_pc : (s.setStatusIn v).pc = s.pc := rfl
@[simp] theorem setStatusIn_stack : (s.setStatusIn v).stack = s.stack := rfl
@[simp] theorem setStatusIn_wram : (s.setStatusIn v).wram = s.wram := rfl
@[simp] theorem setStatusIn_cram : (s.setStatusIn v).cram = s.cram := rfl
@[simp] theorem setStatusIn_prg : (s.setStatusIn v).prg = s.prg := rfl
@[simp] theorem setStatusIn_prgSize : (s.setStatusIn v).prgSize = s.prgSize := rfl
@[simp] theorem setStatusIn_chr : (s.setStatusIn v).chr = s.chr := rfl
@[simp] theorem setStatusIn_chrSize : (s.setStatusIn v).chrSize = s.chrSize := rfl
@[simp] theorem setStatusIn_ctrl : (s.setStatusIn v).ctrl = s.ctrl := rfl
@[simp] theorem setStatusIn_mask : (s.setStatusIn v).mask = s.mask := rfl
@[simp] theorem setStatusIn_status : (s.setStatusIn v).status = s.status := rfl
@[simp] theorem setStatusIn_oamAddr : (s.setStatusIn v).oamAddr = s.oamAddr := rfl
@[simp] theorem setStatusIn_oam : (s.setStatusIn v).oam = s.oam := rfl
@[simp] theorem setStatusIn_scrollX : (s.setStatusIn v).scrollX = s.scrollX := rfl
@[simp] theorem setStatusIn_scrollY : (s.setStatusIn v).scrollY = s.scrollY := rfl
@[simp] theorem setStatusIn_vaddr : (s.setStatusIn v).vaddr = s.vaddr := rfl
@[simp] theorem setStatusIn_w : (s.setStatusIn v).w = s.w := rfl
@[simp] theorem setStatusIn_vram : (s.setStatusIn v).vram = s.vram := rfl
@[simp] theorem setStatusIn_pal : (s.setStatusIn v).pal = s.pal := rfl
@[simp] theorem setStatusIn_halted : (s.setStatusIn v).halted = s.halted := rfl
@[simp] theorem setStatusIn_statusIn : (s.setStatusIn v).statusIn = v := rfl
end

/-- A named register just written reads back. -/
@[simp] theorem setReg_reg_same (r : Reg) (v : Byte) : (s.setReg r v).reg r = v := by cases r <;> rfl

/-- Writing one named register leaves the others. -/
theorem setReg_reg_other (r q : Reg) (v : Byte) (h : q ≠ r) : (s.setReg r v).reg q = s.reg q := by
  cases r <;> cases q <;> first | rfl | exact absurd rfl h

@[simp] theorem setReg_p (r : Reg) (v : Byte) : (s.setReg r v).p = s.p := by cases r <;> rfl
@[simp] theorem setReg_pc (r : Reg) (v : Byte) : (s.setReg r v).pc = s.pc := by cases r <;> rfl
@[simp] theorem setReg_stack (r : Reg) (v : Byte) : (s.setReg r v).stack = s.stack := by cases r <;> rfl
@[simp] theorem setReg_wram (r : Reg) (v : Byte) : (s.setReg r v).wram = s.wram := by cases r <;> rfl
@[simp] theorem setReg_cram (r : Reg) (v : Byte) : (s.setReg r v).cram = s.cram := by cases r <;> rfl
@[simp] theorem setReg_prg (r : Reg) (v : Byte) : (s.setReg r v).prg = s.prg := by cases r <;> rfl
@[simp] theorem setReg_prgSize (r : Reg) (v : Byte) : (s.setReg r v).prgSize = s.prgSize := by cases r <;> rfl
@[simp] theorem setReg_chr (r : Reg) (v : Byte) : (s.setReg r v).chr = s.chr := by cases r <;> rfl
@[simp] theorem setReg_chrSize (r : Reg) (v : Byte) : (s.setReg r v).chrSize = s.chrSize := by cases r <;> rfl
@[simp] theorem setReg_ctrl (r : Reg) (v : Byte) : (s.setReg r v).ctrl = s.ctrl := by cases r <;> rfl
@[simp] theorem setReg_mask (r : Reg) (v : Byte) : (s.setReg r v).mask = s.mask := by cases r <;> rfl
@[simp] theorem setReg_status (r : Reg) (v : Byte) : (s.setReg r v).status = s.status := by cases r <;> rfl
@[simp] theorem setReg_oamAddr (r : Reg) (v : Byte) : (s.setReg r v).oamAddr = s.oamAddr := by cases r <;> rfl
@[simp] theorem setReg_oam (r : Reg) (v : Byte) : (s.setReg r v).oam = s.oam := by cases r <;> rfl
@[simp] theorem setReg_scrollX (r : Reg) (v : Byte) : (s.setReg r v).scrollX = s.scrollX := by cases r <;> rfl
@[simp] theorem setReg_scrollY (r : Reg) (v : Byte) : (s.setReg r v).scrollY = s.scrollY := by cases r <;> rfl
@[simp] theorem setReg_vaddr (r : Reg) (v : Byte) : (s.setReg r v).vaddr = s.vaddr := by cases r <;> rfl
@[simp] theorem setReg_w (r : Reg) (v : Byte) : (s.setReg r v).w = s.w := by cases r <;> rfl
@[simp] theorem setReg_vram (r : Reg) (v : Byte) : (s.setReg r v).vram = s.vram := by cases r <;> rfl
@[simp] theorem setReg_pal (r : Reg) (v : Byte) : (s.setReg r v).pal = s.pal := by cases r <;> rfl
@[simp] theorem setReg_halted (r : Reg) (v : Byte) : (s.setReg r v).halted = s.halted := by cases r <;> rfl
@[simp] theorem setReg_statusIn (r : Reg) (v : Byte) : (s.setReg r v).statusIn = s.statusIn := by cases r <;> rfl

@[simp] theorem setFlag_a (f : Flag) (v : Bool) : (s.setFlag f v).a = s.a := rfl
@[simp] theorem updateZN_a (v : Byte) : (s.updateZN v).a = s.a := rfl
@[simp] theorem setFlag_x (f : Flag) (v : Bool) : (s.setFlag f v).x = s.x := rfl
@[simp] theorem updateZN_x (v : Byte) : (s.updateZN v).x = s.x := rfl
@[simp] theorem setFlag_y (f : Flag) (v : Bool) : (s.setFlag f v).y = s.y := rfl
@[simp] theorem updateZN_y (v : Byte) : (s.updateZN v).y = s.y := rfl
@[simp] theorem setFlag_sp (f : Flag) (v : Bool) : (s.setFlag f v).sp = s.sp := rfl
@[simp] theorem updateZN_sp (v : Byte) : (s.updateZN v).sp = s.sp := rfl
@[simp] theorem setFlag_pc (f : Flag) (v : Bool) : (s.setFlag f v).pc = s.pc := rfl
@[simp] theorem updateZN_pc (v : Byte) : (s.updateZN v).pc = s.pc := rfl
@[simp] theorem setFlag_stack (f : Flag) (v : Bool) : (s.setFlag f v).stack = s.stack := rfl
@[simp] theorem updateZN_stack (v : Byte) : (s.updateZN v).stack = s.stack := rfl
@[simp] theorem setFlag_wram (f : Flag) (v : Bool) : (s.setFlag f v).wram = s.wram := rfl
@[simp] theorem updateZN_wram (v : Byte) : (s.updateZN v).wram = s.wram := rfl
@[simp] theorem setFlag_cram (f : Flag) (v : Bool) : (s.setFlag f v).cram = s.cram := rfl
@[simp] theorem updateZN_cram (v : Byte) : (s.updateZN v).cram = s.cram := rfl
@[simp] theorem setFlag_prg (f : Flag) (v : Bool) : (s.setFlag f v).prg = s.prg := rfl
@[simp] theorem updateZN_prg (v : Byte) : (s.updateZN v).prg = s.prg := rfl
@[simp] theorem setFlag_prgSize (f : Flag) (v : Bool) : (s.setFlag f v).prgSize = s.prgSize := rfl
@[simp] theorem updateZN_prgSize (v : Byte) : (s.updateZN v).prgSize = s.prgSize := rfl
@[simp] theorem setFlag_chr (f : Flag) (v : Bool) : (s.setFlag f v).chr = s.chr := rfl
@[simp] theorem updateZN_chr (v : Byte) : (s.updateZN v).chr = s.chr := rfl
@[simp] theorem setFlag_chrSize (f : Flag) (v : Bool) : (s.setFlag f v).chrSize = s.chrSize := rfl
@[simp] theorem updateZN_chrSize (v : Byte) : (s.updateZN v).chrSize = s.chrSize := rfl
@[simp] theorem setFlag_ctrl (f : Flag) (v : Bool) : (s.setFlag f v).ctrl = s.ctrl := rfl
@[simp] theorem updateZN_ctrl (v : Byte) : (s.updateZN v).ctrl = s.ctrl := rfl
@[simp] theorem setFlag_mask (f : Flag) (v : Bool) : (s.setFlag f v).mask = s.mask := rfl
@[simp] theorem updateZN_mask (v : Byte) : (s.updateZN v).mask = s.mask := rfl
@[simp] theorem setFlag_status (f : Flag) (v : Bool) : (s.setFlag f v).status = s.status := rfl
@[simp] theorem updateZN_status (v : Byte) : (s.updateZN v).status = s.status := rfl
@[simp] theorem setFlag_oamAddr (f : Flag) (v : Bool) : (s.setFlag f v).oamAddr = s.oamAddr := rfl
@[simp] theorem updateZN_oamAddr (v : Byte) : (s.updateZN v).oamAddr = s.oamAddr := rfl
@[simp] theorem setFlag_oam (f : Flag) (v : Bool) : (s.setFlag f v).oam = s.oam := rfl
@[simp] theorem updateZN_oam (v : Byte) : (s.updateZN v).oam = s.oam := rfl
@[simp] theorem setFlag_scrollX (f : Flag) (v : Bool) : (s.setFlag f v).scrollX = s.scrollX := rfl
@[simp] theorem updateZN_scrollX (v : Byte) : (s.updateZN v).scrollX = s.scrollX := rfl
@[simp] theorem setFlag_scrollY (f : Flag) (v : Bool) : (s.setFlag f v).scrollY = s.scrollY := rfl
@[simp] theorem updateZN_scrollY (v : Byte) : (s.updateZN v).scrollY = s.scrollY := rfl
@[simp] theorem setFlag_vaddr (f : Flag) (v : Bool) : (s.setFlag f v).vaddr = s.vaddr := rfl
@[simp] theorem updateZN_vaddr (v : Byte) : (s.updateZN v).vaddr = s.vaddr := rfl
@[simp] theorem setFlag_w (f : Flag) (v : Bool) : (s.setFlag f v).w = s.w := rfl
@[simp] theorem updateZN_w (v : Byte) : (s.updateZN v).w = s.w := rfl
@[simp] theorem setFlag_vram (f : Flag) (v : Bool) : (s.setFlag f v).vram = s.vram := rfl
@[simp] theorem updateZN_vram (v : Byte) : (s.updateZN v).vram = s.vram := rfl
@[simp] theorem setFlag_pal (f : Flag) (v : Bool) : (s.setFlag f v).pal = s.pal := rfl
@[simp] theorem updateZN_pal (v : Byte) : (s.updateZN v).pal = s.pal := rfl
@[simp] theorem setFlag_halted (f : Flag) (v : Bool) : (s.setFlag f v).halted = s.halted := rfl
@[simp] theorem updateZN_halted (v : Byte) : (s.updateZN v).halted = s.halted := rfl
@[simp] theorem setFlag_statusIn (f : Flag) (v : Bool) : (s.setFlag f v).statusIn = s.statusIn := rfl
@[simp] theorem updateZN_statusIn (v : Byte) : (s.updateZN v).statusIn = s.statusIn := rfl
@[simp] theorem setFlag_p (f : Flag) (v : Bool) : (s.setFlag f v).p = putFlag s.p f v := rfl
@[simp] theorem updateZN_p (v : Byte) : (s.updateZN v).p = Sys2Proof.Machine.setZN s.p v := rfl
@[simp] theorem setP_reg (v : Byte) (r : Reg) : (s.setP v).reg r = s.reg r := by cases r <;> rfl
@[simp] theorem setPc_reg (v : Word) (r : Reg) : (s.setPc v).reg r = s.reg r := by cases r <;> rfl
@[simp] theorem setStack_reg (v : Memory) (r : Reg) : (s.setStack v).reg r = s.reg r := by cases r <;> rfl
@[simp] theorem setWram_reg (v : Memory) (r : Reg) : (s.setWram v).reg r = s.reg r := by cases r <;> rfl
@[simp] theorem setCram_reg (v : Memory) (r : Reg) : (s.setCram v).reg r = s.reg r := by cases r <;> rfl
@[simp] theorem setPrg_reg (v : Memory) (r : Reg) : (s.setPrg v).reg r = s.reg r := by cases r <;> rfl
@[simp] theorem setCtrl_reg (v : Byte) (r : Reg) : (s.setCtrl v).reg r = s.reg r := by cases r <;> rfl
@[simp] theorem setMask_reg (v : Byte) (r : Reg) : (s.setMask v).reg r = s.reg r := by cases r <;> rfl
@[simp] theorem setStatus_reg (v : Byte) (r : Reg) : (s.setStatus v).reg r = s.reg r := by cases r <;> rfl
@[simp] theorem setOamAddr_reg (v : Byte) (r : Reg) : (s.setOamAddr v).reg r = s.reg r := by cases r <;> rfl
@[simp] theorem setOam_reg (v : Memory) (r : Reg) : (s.setOam v).reg r = s.reg r := by cases r <;> rfl
@[simp] theorem setScrollX_reg (v : Byte) (r : Reg) : (s.setScrollX v).reg r = s.reg r := by cases r <;> rfl
@[simp] theorem setScrollY_reg (v : Byte) (r : Reg) : (s.setScrollY v).reg r = s.reg r := by cases r <;> rfl
@[simp] theorem setVaddr_reg (v : Word) (r : Reg) : (s.setVaddr v).reg r = s.reg r := by cases r <;> rfl
@[simp] theorem setW_reg (v : Bool) (r : Reg) : (s.setW v).reg r = s.reg r := by cases r <;> rfl
@[simp] theorem setVram_reg (v : Memory) (r : Reg) : (s.setVram v).reg r = s.reg r := by cases r <;> rfl
@[simp] theorem setPal_reg (v : Memory) (r : Reg) : (s.setPal v).reg r = s.reg r := by cases r <;> rfl
@[simp] theorem setHalted_reg (v : RunStatus) (r : Reg) : (s.setHalted v).reg r = s.reg r := by cases r <;> rfl
@[simp] theorem setStatusIn_reg (v : List Byte) (r : Reg) : (s.setStatusIn v).reg r = s.reg r := by cases r <;> rfl
@[simp] theorem updateZN_reg (v : Byte) (r : Reg) : (s.updateZN v).reg r = s.reg r := by cases r <;> rfl
@[simp] theorem setFlag_reg (f : Flag) (v : Bool) (r : Reg) : (s.setFlag f v).reg r = s.reg r := by cases r <;> rfl

end Sys2Proof.Machine.State
end

