-- ==== Sys2Proof/Laws/Flags.lean ====
section
/-! SUPPORT. The laws of the status register: a flag written reads back, the other seven stay. -/

namespace Sys2Proof.Machine

/-- A flag read after a flag write. -/
theorem getFlag_putFlag (p : Byte) (f g : Flag) (v : Bool) :
    getFlag (putFlag p f v) g = if g = f then v else getFlag p g := by
  cases v <;> cases f <;> cases g <;> simp [getFlag, putFlag, Flag.mask, Flag.bit]

@[simp] theorem getFlag_putFlag_same (p : Byte) (f : Flag) (v : Bool) : getFlag (putFlag p f v) f = v := by
  rw [getFlag_putFlag, if_pos rfl]

theorem getFlag_putFlag_other (p : Byte) {f g : Flag} (v : Bool) (h : g ≠ f) :
    getFlag (putFlag p f v) g = getFlag p g := by
  rw [getFlag_putFlag, if_neg h]

/-- `SetZN` leaves every flag but Z and N. -/
theorem getFlag_setZN_other (p v : Byte) {g : Flag} (hz : g ≠ .z) (hn : g ≠ .n) :
    getFlag (setZN p v) g = getFlag p g := by
  rw [setZN, getFlag_putFlag_other _ _ hn, getFlag_putFlag_other _ _ hz]

/-- Two values of `P` with the same eight flags are equal. -/
theorem eq_of_getFlag {p q : Byte} (h : ∀ f, getFlag p f = getFlag q f) : p = q := by
  refine BitVec.eq_of_getLsbD_eq fun i hi => ?_
  have h0 := h .c; have h1 := h .z; have h2 := h .i; have h3 := h .d
  have h4 := h .b; have h5 := h .u; have h6 := h .v; have h7 := h .n
  simp only [getFlag, Flag.bit] at *
  match i, hi with
  | 0, _ => exact h0
  | 1, _ => exact h1
  | 2, _ => exact h2
  | 3, _ => exact h3
  | 4, _ => exact h4
  | 5, _ => exact h5
  | 6, _ => exact h6
  | 7, _ => exact h7

end Sys2Proof.Machine
end

