-- ==== Sys2Proof/Laws/Memory.lean ====
section
/-! SUPPORT. The laws of one store: a write reads back, leaves every other index alone, and keeps the
canonical form; canonical stores that read the same are the same list. -/

namespace Sys2Proof.Machine.Memory

@[simp] theorem read_nil (i : Nat) : read [] i = Config.unlisted := rfl

/-- Below the first listed index nothing is listed. -/
theorem read_lt {k i : Nat} (b : Byte) (rest : Memory) (h : i < k) :
    read ((k, b) :: rest) i = Config.unlisted := by simp [read, h]

/-- Leading cells above `i` or up to `a < i` do not matter for index `i`. -/
theorem read_above (a i : Nat) (m : Memory) :
    read (above a m) i = if i ≤ a then Config.unlisted else read m i := by
  induction m with
  | nil => simp [above]
  | cons c rest ih =>
    obtain ⟨k, b⟩ := c
    by_cases hk : k ≤ a
    · simp only [above, hk, if_true, ih]
      split
      · rfl
      · rename_i hi
        rw [read, if_neg (by omega), if_neg (by omega)]
    · simp only [above, hk, if_false]
      split
      · exact read_lt b rest (by omega)
      · rfl

theorem read_cons (a i : Nat) (v : Byte) (rest : Memory) (h : ∀ j, j ≤ a → read rest j = Config.unlisted) :
    read (cons a v rest) i = if i = a then v else read rest i := by
  unfold cons
  by_cases hv : v = Config.unlisted
  · simp only [hv, if_true]
    split
    · rename_i hi
      exact h i (by omega)
    · rfl
  · simp only [hv, if_false, read]
    by_cases h1 : i < a
    · simp [h1, Nat.ne_of_lt h1, h i (by omega)]
    · simp [h1]

/-- Reading any index after a write: the byte written at its own index, the old byte elsewhere. -/
theorem read_write (m : Memory) (a i : Nat) (v : Byte) :
    read (write m a v) i = if i = a then v else read m i := by
  induction m with
  | nil =>
    rw [write, read_cons]
    intro j _
    rfl
  | cons c rest ih =>
    obtain ⟨k, b⟩ := c
    simp only [write]
    by_cases h1 : a < k
    · simp only [h1, if_true]
      exact read_cons a i v _ fun j hj => read_lt b rest (by omega)
    · simp only [h1, if_false]
      by_cases h2 : a = k
      · subst h2
        simp only [if_true]
        rw [read_cons _ _ _ _ fun j hj => by rw [read_above, if_pos hj], read_above]
        by_cases hi : i = a
        · simp [hi]
        · simp only [hi, if_false, read]
          split
          · rename_i h
            rw [if_pos (by omega)]
          · rw [if_neg (by omega)]
      · simp only [h2, if_false, read, ih]
        by_cases hi : i < k
        · simp only [hi, if_true]
          rw [if_neg (by omega)]
        · simp only [hi, if_false]
          by_cases hik : i = k
          · simp only [hik, if_true]
            rw [if_neg (by omega)]
          · simp [hik]

/-- A write reads back at its own index. -/
@[simp] theorem read_write_same (m : Memory) (a : Nat) (v : Byte) : read (write m a v) a = v := by
  rw [read_write, if_pos rfl]

/-- A write leaves every other index alone. -/
theorem read_write_other (m : Memory) {a i : Nat} (v : Byte) (h : i ≠ a) :
    read (write m a v) i = read m i := by
  rw [read_write, if_neg h]

/-- A canonical list from a higher index is canonical from a lower one. -/
theorem wfFrom_mono {lo lo' size : Nat} {m : Memory} (h : wfFrom lo size m = true) (hl : lo' ≤ lo) :
    wfFrom lo' size m = true := by
  cases m with
  | nil => rfl
  | cons c rest =>
    obtain ⟨k, b⟩ := c
    simp only [wfFrom, Bool.and_eq_true, decide_eq_true_eq] at h ⊢
    exact ⟨⟨⟨by omega, h.1.1.2⟩, h.1.2⟩, h.2⟩

/-- On a canonical list starting above `a` there is nothing to drop. -/
theorem above_of_wf {a size : Nat} {m : Memory} (h : wfFrom (a + 1) size m = true) : above a m = m := by
  cases m with
  | nil => rfl
  | cons c rest =>
    obtain ⟨k, b⟩ := c
    simp only [wfFrom, Bool.and_eq_true, decide_eq_true_eq] at h
    rw [above, if_neg (by omega)]

theorem wfFrom_cons {a lo size : Nat} {v : Byte} {rest : Memory} (h : wfFrom (a + 1) size rest = true)
    (hlo : lo ≤ a) (ha : a < size) : wfFrom lo size (cons a v rest) = true := by
  unfold cons
  split
  · exact wfFrom_mono h (by omega)
  · rename_i hv
    simp [wfFrom, hlo, ha, hv, h]

/-- A write inside the store keeps the canonical form, from any lower bound it respects. -/
theorem wfFrom_write {lo size : Nat} (m : Memory) {a : Nat} (v : Byte) (h : wfFrom lo size m = true)
    (hlo : lo ≤ a) (ha : a < size) : wfFrom lo size (write m a v) = true := by
  induction m generalizing lo with
  | nil => exact wfFrom_cons rfl hlo ha
  | cons c rest ih =>
    obtain ⟨k, b⟩ := c
    have h' := h
    simp only [wfFrom, Bool.and_eq_true, decide_eq_true_eq] at h'
    obtain ⟨⟨⟨hk, hks⟩, hb⟩, hr⟩ := h'
    simp only [write]
    split
    · rename_i hak
      refine wfFrom_cons ?_ hlo ha
      simp only [wfFrom, Bool.and_eq_true, decide_eq_true_eq]
      exact ⟨⟨⟨hak, hks⟩, hb⟩, hr⟩
    · split
      · rename_i hak
        subst hak
        rw [above_of_wf hr]
        exact wfFrom_cons hr hlo ha
      · simp only [wfFrom, Bool.and_eq_true, decide_eq_true_eq]
        exact ⟨⟨⟨hk, hks⟩, hb⟩, ih hr (by omega)⟩

/-- A write inside the store keeps the canonical form. -/
theorem wf_write {size : Nat} {m : Memory} {a : Nat} (v : Byte) (h : wf size m = true) (ha : a < size) :
    wf size (write m a v) = true := wfFrom_write m v h (Nat.zero_le a) ha

/-- The store made of given bytes is canonical when they fit. -/
theorem wfFrom_ofBytes (bs : List Byte) (k size : Nat) (h : k + bs.length ≤ size) :
    wfFrom k size (ofBytes k bs) = true := by
  induction bs generalizing k with
  | nil => rfl
  | cons b rest ih =>
    simp only [List.length_cons] at h
    exact wfFrom_cons (ih (k + 1) (by omega)) (Nat.le_refl k) (by omega)

/-- Below the first index nothing of a canonical list is listed. -/
theorem read_below {lo size i : Nat} {m : Memory} (h : wfFrom lo size m = true) (hi : i < lo) :
    read m i = Config.unlisted := by
  cases m with
  | nil => rfl
  | cons c rest =>
    obtain ⟨k, b⟩ := c
    simp only [wfFrom, Bool.and_eq_true, decide_eq_true_eq] at h
    exact read_lt b rest (by omega)

/-- The byte at an index of the store made of given bytes. -/
theorem read_ofBytes (bs : List Byte) (k i : Nat) :
    read (ofBytes k bs) i = if k ≤ i then bs.getD (i - k) Config.unlisted else Config.unlisted := by
  induction bs generalizing k i with
  | nil => simp [ofBytes]
  | cons b rest ih =>
    have low : ∀ j, j ≤ k → read (ofBytes (k + 1) rest) j = Config.unlisted := by
      intro j hj
      rw [ih, if_neg (by omega)]
    rw [ofBytes, read_cons _ _ _ _ low, ih]
    by_cases h1 : i = k
    · simp [h1]
    · rw [if_neg h1]
      by_cases h2 : k + 1 ≤ i
      · rw [if_pos h2, if_pos (by omega)]
        have : i - k = (i - (k + 1)) + 1 := by omega
        rw [this, List.getD_cons_succ]
      · rw [if_neg h2, if_neg (by omega)]

/-- Canonical stores are equal when they read the same everywhere. -/
theorem eq_of_read {lo size : Nat} {m n : Memory} (hm : wfFrom lo size m = true)
    (hn : wfFrom lo size n = true) (h : ∀ i, read m i = read n i) : m = n := by
  induction m generalizing lo n with
  | nil =>
    cases n with
    | nil => rfl
    | cons d rest =>
      obtain ⟨k, b⟩ := d
      have hk := h k
      simp only [wfFrom, Bool.and_eq_true, bne_iff_ne, ne_eq] at hn
      simp only [read, Nat.lt_irrefl, if_false, if_true] at hk
      exact absurd hk.symm hn.1.2
  | cons c rest ih =>
    obtain ⟨k, b⟩ := c
    have hm' := hm
    simp only [wfFrom, Bool.and_eq_true, decide_eq_true_eq, bne_iff_ne, ne_eq] at hm'
    cases n with
    | nil =>
      have hk := h k
      simp only [read, Nat.lt_irrefl, if_false, if_true] at hk
      exact absurd hk hm'.1.2
    | cons d rest' =>
      obtain ⟨j, b'⟩ := d
      have hn' := hn
      simp only [wfFrom, Bool.and_eq_true, decide_eq_true_eq, bne_iff_ne, ne_eq] at hn'
      have hkj : k = j := by
        rcases Nat.lt_trichotomy k j with h1 | h1 | h1
        · have := h k
          rw [read_lt b' rest' h1] at this
          simp only [read, Nat.lt_irrefl, if_false, if_true] at this
          exact absurd this hm'.1.2
        · exact h1
        · have := h j
          rw [read_lt b rest h1] at this
          simp only [read, Nat.lt_irrefl, if_false, if_true] at this
          exact absurd this.symm hn'.1.2
      subst hkj
      have hb : b = b' := by
        have := h k
        simpa [read] using this
      subst hb
      congr 1
      refine ih hm'.2 hn'.2 fun i => ?_
      rcases Nat.lt_trichotomy i k with h1 | h1 | h1
      · rw [read_below hm'.2 (by omega), read_below hn'.2 (by omega)]
      · rw [read_below hm'.2 (by omega), read_below hn'.2 (by omega)]
      · have := h i
        simp only [read] at this
        rwa [if_neg (by omega), if_neg (by omega), if_neg (by omega), if_neg (by omega)] at this

end Sys2Proof.Machine.Memory
end

