-- ==== Sys2Proof/Laws/Ops.lean ====
section
/-! SUPPORT. One lemma for each shared operation that says what it can do when it answers: sequencing, the
region of an address, a bus read, a bus write, the bulk copy, push and pull, the break trap. -/

namespace Sys2Proof.Machine

/-! ### Sequencing -/

@[simp] theorem andThen_ok {α β : Type} (v : α) (s : State) (k : α → State → Except Fault β) :
    andThen (.ok (v, s)) k = k v s := rfl

@[simp] theorem andThen_error {α β : Type} (f : Fault) (k : α → State → Except Fault β) :
    andThen (.error f) k = .error f := rfl

/-- A sequence answers when its first part does and the rest then does. -/
theorem andThen_eq_ok {α β : Type} {r : Except Fault (α × State)} {k : α → State → Except Fault β} {y : β} :
    andThen r k = .ok y ↔ ∃ v s, r = .ok (v, s) ∧ k v s = .ok y := by
  cases r with
  | error f => simp
  | ok p =>
    obtain ⟨v, s⟩ := p
    constructor
    · intro h
      exact ⟨v, s, rfl, h⟩
    · rintro ⟨v', s', h, hk⟩
      cases h
      exact hk

@[simp] theorem finish_ok (s : State) : finish (.ok s) = .next s := rfl

@[simp] theorem finish_error (f : Fault) : finish (.error f) = .fault f := rfl

theorem finish_eq_next {r : Except Fault State} {t : State} : finish r = .next t ↔ r = .ok t := by
  cases r <;> simp [finish]

/-! ### Regions -/

theorem regionOf_wram {a : Word} (h : a.toNat ≤ 0x1FFF) : regionOf a = .wram (a.toNat % 0x0800) := by
  simp [regionOf, h]

theorem regionOf_periph {a : Word} (h1 : 0x2000 ≤ a.toNat) (h2 : a.toNat ≤ 0x3FFF) :
    regionOf a = .periph (a.toNat % 8) := by
  have : (a.toNat - 0x2000) % 8 = a.toNat % 8 := by omega
  simp [regionOf, this, h2]
  omega

theorem regionOf_bulkCopy {a : Word} (h : a.toNat = 0x4014) : regionOf a = .bulkCopy := by
  simp [regionOf, h]

theorem regionOf_stub {a : Word} (h1 : 0x4000 ≤ a.toNat) (h2 : a.toNat ≤ 0x4018) (h3 : a.toNat ≠ 0x4014) :
    regionOf a = .stub := by
  simp only [regionOf]
  rw [if_neg (by omega), if_neg (by omega), if_neg h3, if_pos h2]

theorem regionOf_unmapped {a : Word} (h1 : 0x4019 ≤ a.toNat) (h2 : a.toNat ≤ 0x5FFF) :
    regionOf a = .unmapped := by
  simp only [regionOf]
  rw [if_neg (by omega), if_neg (by omega), if_neg (by omega), if_neg (by omega), if_pos h2]

theorem regionOf_cram {a : Word} (h1 : 0x6000 ≤ a.toNat) (h2 : a.toNat ≤ 0x7FFF) :
    regionOf a = .cram (a.toNat - 0x6000) := by
  simp only [regionOf]
  rw [if_neg (by omega), if_neg (by omega), if_neg (by omega), if_neg (by omega), if_neg (by omega), if_pos h2]

theorem regionOf_rom {a : Word} (h : 0x8000 ≤ a.toNat) : regionOf a = .rom (a.toNat - 0x8000) := by
  simp only [regionOf]
  rw [if_neg (by omega), if_neg (by omega), if_neg (by omega), if_neg (by omega), if_neg (by omega),
    if_neg (by omega)]

/-- The seven ranges of R51 and what each leads to. -/
theorem regionOf_cases (a : Word) :
    (a.toNat ≤ 0x1FFF ∧ regionOf a = .wram (a.toNat % 0x0800)) ∨
    (0x2000 ≤ a.toNat ∧ a.toNat ≤ 0x3FFF ∧ regionOf a = .periph (a.toNat % 8)) ∨
    (a.toNat = 0x4014 ∧ regionOf a = .bulkCopy) ∨
    (0x4000 ≤ a.toNat ∧ a.toNat ≤ 0x4018 ∧ a.toNat ≠ 0x4014 ∧ regionOf a = .stub) ∨
    (0x4019 ≤ a.toNat ∧ a.toNat ≤ 0x5FFF ∧ regionOf a = .unmapped) ∨
    (0x6000 ≤ a.toNat ∧ a.toNat ≤ 0x7FFF ∧ regionOf a = .cram (a.toNat - 0x6000)) ∨
    (0x8000 ≤ a.toNat ∧ regionOf a = .rom (a.toNat - 0x8000)) := by
  by_cases h1 : a.toNat ≤ 0x1FFF
  · exact .inl ⟨h1, regionOf_wram h1⟩
  by_cases h2 : a.toNat ≤ 0x3FFF
  · exact .inr (.inl ⟨by omega, h2, regionOf_periph (by omega) h2⟩)
  by_cases h3 : a.toNat = 0x4014
  · exact .inr (.inr (.inl ⟨h3, regionOf_bulkCopy h3⟩))
  by_cases h4 : a.toNat ≤ 0x4018
  · exact .inr (.inr (.inr (.inl ⟨by omega, h4, h3, regionOf_stub (by omega) h4 h3⟩)))
  by_cases h5 : a.toNat ≤ 0x5FFF
  · exact .inr (.inr (.inr (.inr (.inl ⟨by omega, h5, regionOf_unmapped (by omega) h5⟩))))
  by_cases h6 : a.toNat ≤ 0x7FFF
  · exact .inr (.inr (.inr (.inr (.inr (.inl ⟨by omega, h6, regionOf_cram (by omega) h6⟩)))))
  · exact .inr (.inr (.inr (.inr (.inr (.inr ⟨by omega, regionOf_rom (by omega)⟩)))))

/-! ### Reads -/

/-- A peripheral read that answers leaves the state, but for index 2, which clears the toggle. -/
theorem periphRead_ok {i : Nat} {s t : State} {v : Byte} (h : periphRead i s = .ok (v, t)) :
    t = s ∨ (i = 2 ∧ t = s.setW false) := by
  unfold periphRead at h
  split at h
  · rename_i hi
    cases h
    exact .inr ⟨hi, rfl⟩
  · split at h
    · cases h
      exact .inl rfl
    · split at h
      · split at h
        · cases h
          exact .inl rfl
        · cases h
      · cases h

/-- A bus read that answers leaves the state, but for an address of index 2, which clears the toggle. -/
theorem busRead_ok {a : Word} {s t : State} {v : Byte} (h : busRead a s = .ok (v, t)) :
    t = s ∨ (regionOf a = .periph 2 ∧ t = s.setW false) := by
  unfold busRead at h
  split at h
  · cases h; exact .inl rfl
  · rename_i i hr
    obtain h' | ⟨hi, h'⟩ := periphRead_ok h
    · exact .inl h'
    · exact .inr ⟨by rw [hr, hi], h'⟩
  · cases h; exact .inl rfl
  · cases h; exact .inl rfl
  · cases h
  · cases h; exact .inl rfl
  · cases h; exact .inl rfl

/-- A read of work memory answers its byte and changes nothing. -/
theorem busRead_wram {a : Word} (s : State) (h : a.toNat ≤ 0x1FFF) :
    busRead a s = .ok (Memory.read s.wram (a.toNat % 0x0800), s) := by
  simp [busRead, regionOf_wram h]

theorem zext_toNat (b : Byte) : (zext b).toNat = b.toNat := by
  simp only [zext, BitVec.toNat_setWidth]
  exact Nat.mod_eq_of_lt (by omega)

/-- A read in page 0 answers the work memory byte and changes nothing. -/
theorem busRead_zext (b : Byte) (s : State) :
    busRead (zext b) s = .ok (Memory.read s.wram b.toNat, s) := by
  have hb : b.toNat < 256 := b.isLt
  rw [busRead_wram s (by rw [zext_toNat]; omega), zext_toNat, Nat.mod_eq_of_lt (by omega)]

/-! ### What no bus access touches -/

/-- What every bus access that answers leaves as it was, and that it keeps the stores canonical. -/
structure BusFrame (s t : State) : Prop where
  a : t.a = s.a
  x : t.x = s.x
  y : t.y = s.y
  sp : t.sp = s.sp
  p : t.p = s.p
  pc : t.pc = s.pc
  stack : t.stack = s.stack
  prg : t.prg = s.prg
  prgSize : t.prgSize = s.prgSize
  chr : t.chr = s.chr
  chrSize : t.chrSize = s.chrSize
  status : t.status = s.status
  halted : t.halted = s.halted
  statusIn : t.statusIn = s.statusIn
  wf : s.wf = true → t.wf = true

theorem BusFrame.refl (s : State) : BusFrame s s := by
  constructor <;> first | rfl | exact id

theorem BusFrame.trans {s t u : State} (h : BusFrame s t) (k : BusFrame t u) : BusFrame s u where
  a := k.a.trans h.a
  x := k.x.trans h.x
  y := k.y.trans h.y
  sp := k.sp.trans h.sp
  p := k.p.trans h.p
  pc := k.pc.trans h.pc
  stack := k.stack.trans h.stack
  prg := k.prg.trans h.prg
  prgSize := k.prgSize.trans h.prgSize
  chr := k.chr.trans h.chr
  chrSize := k.chrSize.trans h.chrSize
  status := k.status.trans h.status
  halted := k.halted.trans h.halted
  statusIn := k.statusIn.trans h.statusIn
  wf w := k.wf (h.wf w)

/-- The registers of a bus frame by name. -/
theorem BusFrame.reg {s t : State} (h : BusFrame s t) (r : Reg) : t.reg r = s.reg r := by
  cases r
  · exact h.a
  · exact h.x
  · exact h.y
  · exact h.sp

/-- The canonical state, store by store. -/
theorem State.wf_iff (s : State) : s.wf = true ↔
    Memory.wf Config.stackSize s.stack = true ∧ Memory.wf Config.wramSize s.wram = true ∧
    Memory.wf Config.cramSize s.cram = true ∧ Memory.wf s.prgSize.bytes s.prg = true ∧
    Memory.wf s.chrSize.bytes s.chr = true ∧ Memory.wf Config.oamSize s.oam = true ∧
    Memory.wf Config.vramSize s.vram = true ∧ Memory.wf Config.palSize s.pal = true := by
  simp only [State.wf, Bool.and_eq_true, and_assoc]

theorem busFrame_setW (s : State) (v : Bool) : BusFrame s (s.setW v) := by
  constructor <;> first | rfl | exact id

theorem busRead_frame {a : Word} {s t : State} {v : Byte} (h : busRead a s = .ok (v, t)) : BusFrame s t := by
  obtain h' | ⟨_, h'⟩ := busRead_ok h
  · rw [h']; exact BusFrame.refl s
  · rw [h']; exact busFrame_setW s false

/-- Writing one byte of a store inside its size is a bus frame. -/
theorem busFrame_setWram (s : State) {i : Nat} (v : Byte) (hi : i < Config.wramSize) :
    BusFrame s (s.setWram (Memory.write s.wram i v)) := by
  constructor <;> first | rfl | skip
  intro hw
  rw [State.wf_iff] at hw ⊢
  exact ⟨hw.1, Memory.wf_write v hw.2.1 hi, hw.2.2⟩

theorem busFrame_setCram (s : State) {i : Nat} (v : Byte) (hi : i < Config.cramSize) :
    BusFrame s (s.setCram (Memory.write s.cram i v)) := by
  constructor <;> first | rfl | skip
  intro hw
  rw [State.wf_iff] at hw ⊢
  exact ⟨hw.1, hw.2.1, Memory.wf_write v hw.2.2.1 hi, hw.2.2.2⟩

theorem busFrame_setOam (s : State) {i : Nat} (v : Byte) (hi : i < Config.oamSize) :
    BusFrame s (s.setOam (Memory.write s.oam i v)) := by
  constructor <;> first | rfl | skip
  intro hw
  rw [State.wf_iff] at hw ⊢
  obtain ⟨h1, h2, h3, h4, h5, h6, h7⟩ := hw
  exact ⟨h1, h2, h3, h4, h5, Memory.wf_write v h6 hi, h7⟩

theorem busFrame_setVram (s : State) {i : Nat} (v : Byte) (hi : i < Config.vramSize) :
    BusFrame s (s.setVram (Memory.write s.vram i v)) := by
  constructor <;> first | rfl | skip
  intro hw
  rw [State.wf_iff] at hw ⊢
  obtain ⟨h1, h2, h3, h4, h5, h6, h7, h8⟩ := hw
  exact ⟨h1, h2, h3, h4, h5, h6, Memory.wf_write v h7 hi, h8⟩

theorem busFrame_setPal (s : State) {i : Nat} (v : Byte) (hi : i < Config.palSize) :
    BusFrame s (s.setPal (Memory.write s.pal i v)) := by
  constructor <;> first | rfl | skip
  intro hw
  rw [State.wf_iff] at hw ⊢
  obtain ⟨h1, h2, h3, h4, h5, h6, h7, h8⟩ := hw
  exact ⟨h1, h2, h3, h4, h5, h6, h7, Memory.wf_write v h8 hi⟩

/-! ### The bulk copy -/

/-- A bulk copy that answers changes only OAM and the toggle. -/
theorem bulkCopy_ok {v : Byte} {is : List Nat} {s t : State} (h : bulkCopy v is s = .ok t) :
    t = (s.setOam t.oam).setW t.w := by
  induction is generalizing s with
  | nil => cases h; rfl
  | cons i rest ih =>
    rw [bulkCopy, andThen_eq_ok] at h
    obtain ⟨b, s1, h1, h2⟩ := h
    have := ih h2
    rw [this]
    obtain h' | ⟨_, h'⟩ := busRead_ok h1 <;> subst h' <;> rfl

/-- A bulk copy over indices inside OAM is a bus frame. -/
theorem bulkCopy_frame {v : Byte} {is : List Nat} {s t : State} (hi : ∀ i ∈ is, i < Config.oamSize)
    (h : bulkCopy v is s = .ok t) : BusFrame s t := by
  induction is generalizing s with
  | nil => cases h; exact BusFrame.refl _
  | cons i rest ih =>
    rw [bulkCopy, andThen_eq_ok] at h
    obtain ⟨b, s1, h1, h2⟩ := h
    exact (busRead_frame h1).trans
      ((busFrame_setOam s1 b (hi i (by simp))).trans (ih (fun j hj => hi j (by simp [hj])) h2))

/-! ### Writes -/

theorem videoWrite_frame {va : Word} {v : Byte} {s t : State} (h : videoWrite va v s = .ok t) :
    BusFrame s t := by
  unfold videoWrite at h
  simp only at h
  split at h
  · cases h
  · split at h
    · cases h
      exact busFrame_setVram s v (Nat.mod_lt _ (by decide))
    · split at h
      · cases h
        exact busFrame_setPal s v (Nat.mod_lt _ (by decide))
      · cases h

theorem periphWrite_frame {i : Nat} {v : Byte} {s t : State} (h : periphWrite i v s = .ok t) :
    BusFrame s t := by
  unfold periphWrite at h
  split at h
  · cases h; constructor <;> first | rfl | exact id
  split at h
  · cases h; constructor <;> first | rfl | exact id
  split at h
  · cases h
  split at h
  · cases h; constructor <;> first | rfl | exact id
  split at h
  · cases h
    refine (busFrame_setOam s v (i := s.oamAddr.toNat) s.oamAddr.isLt).trans ?_
    constructor <;> first | rfl | exact id
  split at h
  · cases h
    cases s.w <;> constructor <;> first | rfl | exact id
  split at h
  · cases h; constructor <;> first | rfl | exact id
  split at h
  · exact videoWrite_frame h
  split at h
  · refine bulkCopy_frame (fun i hi => ?_) h
    exact List.mem_range.mp hi
  · cases h

/-- A bus write that answers leaves the CPU, the stack array, the cartridge, `status` and the run alone and
keeps the stores canonical. -/
theorem busWrite_frame {a : Word} {v : Byte} {s t : State} (h : busWrite a v s = .ok t) : BusFrame s t := by
  obtain ⟨hn, hr⟩ | ⟨h1, h2, hr⟩ | ⟨hn, hr⟩ | ⟨h1, h2, h3, hr⟩ | ⟨h1, h2, hr⟩ | ⟨h1, h2, hr⟩ | ⟨hn, hr⟩ :=
    regionOf_cases a <;> simp only [busWrite, hr] at h
  · cases h
    exact busFrame_setWram s v (Nat.mod_lt _ (by decide))
  · exact periphWrite_frame h
  · exact periphWrite_frame h
  · cases h
    exact BusFrame.refl s
  · cases h
  · cases h
    exact busFrame_setCram s v (by simp only [Config.cramSize]; omega)
  · cases h

theorem memRead16_ok {a : Word} {s t : State} {v : Word} (h : memRead16 a s = .ok (v, t)) :
    ∃ lo hi s1, busRead a s = .ok (lo, s1) ∧ busRead (a + 1) s1 = .ok (hi, t) ∧ v = mkWord hi lo := by
  simp only [memRead16, andThen_eq_ok] at h
  obtain ⟨lo, s1, h1, hi, s2, h2, h3⟩ := h
  cases h3
  exact ⟨lo, hi, s1, h1, h2, rfl⟩

/-- A read of ROM answers the byte of program memory and changes nothing. -/
theorem busRead_rom {a : Word} (s : State) (h : 0x8000 ≤ a.toNat) :
    busRead a s = .ok (Memory.read s.prg ((a.toNat - 0x8000) % s.prgSize.bytes), s) := by
  simp [busRead, regionOf_rom h, State.romIndex]

/-- The break vector's word. -/
def breakTarget (s : State) : Word :=
  mkWord (Memory.read s.prg (0x7FFF % s.prgSize.bytes)) (Memory.read s.prg (0x7FFE % s.prgSize.bytes))

/-- The reset vector's word. -/
def resetTarget (s : State) : Word :=
  mkWord (Memory.read s.prg (0x7FFD % s.prgSize.bytes)) (Memory.read s.prg (0x7FFC % s.prgSize.bytes))

theorem memRead16_breakVector (s : State) : memRead16 Config.breakVector s = .ok (breakTarget s, s) := by
  rw [memRead16, busRead_rom s (by decide), andThen_ok, busRead_rom s (by decide), andThen_ok]
  rfl

theorem memRead16_resetVector (s : State) : memRead16 Config.resetVector s = .ok (resetTarget s, s) := by
  rw [memRead16, busRead_rom s (by decide), andThen_ok, busRead_rom s (by decide), andThen_ok]
  rfl

/-! ### Push, pull and the trap -/

/-- The byte of the stack array after a push. -/
theorem read_push (v : Byte) (s : State) (i : Nat) :
    Memory.read (push v s).stack i = if i = s.sp.toNat then v else Memory.read s.stack i := by
  simp only [push, State.setSp_stack, State.setStack_stack, Memory.read_write]

@[simp] theorem push_sp (v : Byte) (s : State) : (push v s).sp = s.sp - 1 := rfl

/-- A push changes only the stack array and `SP`. -/
theorem push_eq (v : Byte) (s : State) : push v s = (s.setStack (push v s).stack).setSp (s.sp - 1) := rfl

/-! A push changes no other field. -/

section
variable (v : Byte) (s : State)
@[simp] theorem push_a : (push v s).a = s.a := rfl
@[simp] theorem push_x : (push v s).x = s.x := rfl
@[simp] theorem push_y : (push v s).y = s.y := rfl
@[simp] theorem push_p : (push v s).p = s.p := rfl
@[simp] theorem push_pc : (push v s).pc = s.pc := rfl
@[simp] theorem push_wram : (push v s).wram = s.wram := rfl
@[simp] theorem push_cram : (push v s).cram = s.cram := rfl
@[simp] theorem push_prg : (push v s).prg = s.prg := rfl
@[simp] theorem push_prgSize : (push v s).prgSize = s.prgSize := rfl
@[simp] theorem push_chr : (push v s).chr = s.chr := rfl
@[simp] theorem push_chrSize : (push v s).chrSize = s.chrSize := rfl
@[simp] theorem push_ctrl : (push v s).ctrl = s.ctrl := rfl
@[simp] theorem push_mask : (push v s).mask = s.mask := rfl
@[simp] theorem push_status : (push v s).status = s.status := rfl
@[simp] theorem push_oamAddr : (push v s).oamAddr = s.oamAddr := rfl
@[simp] theorem push_oam : (push v s).oam = s.oam := rfl
@[simp] theorem push_scrollX : (push v s).scrollX = s.scrollX := rfl
@[simp] theorem push_scrollY : (push v s).scrollY = s.scrollY := rfl
@[simp] theorem push_vaddr : (push v s).vaddr = s.vaddr := rfl
@[simp] theorem push_w : (push v s).w = s.w := rfl
@[simp] theorem push_vram : (push v s).vram = s.vram := rfl
@[simp] theorem push_pal : (push v s).pal = s.pal := rfl
@[simp] theorem push_halted : (push v s).halted = s.halted := rfl
@[simp] theorem push_statusIn : (push v s).statusIn = s.statusIn := rfl
end

@[simp] theorem pull_snd (s : State) : (pull s).2 = s.setSp (s.sp + 1) := rfl

@[simp] theorem pull_fst (s : State) : (pull s).1 = Memory.read s.stack (s.sp + 1).toNat := rfl

@[simp] theorem pullWord_snd (s : State) : (pullWord s).2 = s.setSp (s.sp + 1 + 1) := rfl

@[simp] theorem pullWord_fst (s : State) : (pullWord s).1 =
    mkWord (Memory.read s.stack (s.sp + 1 + 1).toNat) (Memory.read s.stack (s.sp + 1).toNat) := rfl

/-- A push keeps the state canonical. -/
theorem wf_push {s : State} (v : Byte) (h : s.wf = true) : (push v s).wf = true := by
  rw [State.wf_iff] at h ⊢
  exact ⟨Memory.wf_write v h.1 s.sp.isLt, h.2⟩

/-- Trap entry always answers: the saved bytes, the vector's word, B set. -/
theorem takeBreak_eq (ret : Word) (s : State) : takeBreak ret s =
    .ok (((push s.p (pushWord ret s)).setPc (breakTarget s)).setFlag .b true) := by
  rw [takeBreak, memRead16_breakVector, andThen_ok]
  rfl

/-! ### The host's draw and the auto-advance -/

/-- Without a pending value `status` stays. -/
theorem drawStatus_nil {s : State} (h : s.statusIn = []) : drawStatus s = s := by simp [drawStatus, h]

/-- A pending value becomes `status`. -/
theorem drawStatus_cons {s : State} {v : Byte} {vs : List Byte} (h : s.statusIn = v :: vs) :
    drawStatus s = (s.setStatus v).setStatusIn vs := by simp [drawStatus, h]

/-- The auto-advance answers a next state exactly when the operation does, and changes `PC` alone. -/
theorem autoAdvance_next {op : Byte} {pc0 : Word} {r : Result} {t : State} (h : autoAdvance op pc0 r = .next t) :
    ∃ u, r = .next u ∧ t = u.setPc t.pc := by
  cases r with
  | next u =>
    refine ⟨u, rfl, ?_⟩
    simp only [autoAdvance] at h
    split at h <;> cases h <;> rfl
  | fault f => simp [autoAdvance] at h
  | refused r => simp [autoAdvance] at h

end Sys2Proof.Machine
end

