-- ==== Sys2Proof/Laws/Operands.lean ====
section
/-! SUPPORT. One lemma for each operand operation: resolving an address mode answers and changes nothing,
what a read operand and a modified target can do. -/

namespace Sys2Proof.Machine

/-- The word a zero-page pointer holds. -/
def pointerWord (z : Byte) (s : State) : Word :=
  mkWord (Memory.read s.wram (z + 1).toNat) (Memory.read s.wram z.toNat)

theorem zeroPagePointer_eq (z : Byte) (s : State) : zeroPagePointer z s = .ok (pointerWord z s, s) := by
  simp only [zeroPagePointer, busRead_zext, andThen_ok]
  rfl

/-- The address a mode resolves to, as a value. -/
def addrOf : AddrMode → State → Word
  | .zp z, _ => zext z
  | .zpx z, s => zext (z + s.x)
  | .zpy z, s => zext (z + s.y)
  | .abs addr, _ => addr
  | .absx addr, s => addr + zext s.x
  | .absy addr, s => addr + zext s.y
  | .indx z, s => pointerWord (z + s.x) s
  | .indy z, s => pointerWord z s + zext s.y

/-- Every data mode resolves, in every state, and changes nothing. -/
theorem effAddr_eq (mode : AddrMode) (s : State) : effAddr mode s = .ok (addrOf mode s, s) := by
  cases mode <;> simp [effAddr, addrOf, zeroPagePointer_eq]

@[simp] theorem read_imm (v : Byte) (s : State) : Source.read (.imm v) s = .ok (v, s) := rfl

theorem read_mem (mode : AddrMode) (s : State) : Source.read (.mem mode) s = busRead (addrOf mode s) s := by
  rw [Source.read, effAddr_eq, andThen_ok]

/-- Reading an operand leaves the state, but perhaps for the toggle. -/
theorem source_read_ok {src : Source} {s t : State} {v : Byte} (h : src.read s = .ok (v, t)) :
    t = s.setW t.w := by
  cases src with
  | imm b => cases h; rfl
  | mem mode =>
    rw [read_mem] at h
    obtain h' | ⟨_, h'⟩ := busRead_ok h <;> subst h' <;> rfl

theorem source_read_frame {src : Source} {s t : State} {v : Byte} (h : src.read s = .ok (v, t)) :
    BusFrame s t := by
  rw [source_read_ok h]
  exact busFrame_setW s t.w

/-- A memory target modified: one read, one write of the same address, then `P`. -/
theorem modify_mem_ok {mode : AddrMode} {value flags : Byte → State → Byte} {s t : State}
    (h : Target.modify (.mem mode) value flags s = .ok t) :
    ∃ v s1 s2, busRead (addrOf mode s) s = .ok (v, s1) ∧
      busWrite (addrOf mode s) (value v s1) s1 = .ok s2 ∧ t = s2.setP (flags v s1) := by
  simp only [Target.modify, effAddr_eq, andThen_ok, andThen_eq_ok] at h
  obtain ⟨v, s1, h1, h2⟩ := h
  split at h2
  · cases h2
  · rename_i s2 hw
    cases h2
    exact ⟨v, s1, s2, h1, hw, rfl⟩

/-- A memory target modified, the other way round: when the read and the write answer. -/
theorem modify_mem_of {mode : AddrMode} {value flags : Byte → State → Byte} {s s1 s2 : State} {v : Byte}
    (h1 : busRead (addrOf mode s) s = .ok (v, s1))
    (h2 : busWrite (addrOf mode s) (value v s1) s1 = .ok s2) :
    Target.modify (.mem mode) value flags s = .ok (s2.setP (flags v s1)) := by
  simp [Target.modify, effAddr_eq, h1, h2]

/-- Whatever a modified target does, only `A`, `P` and what a bus access may touch change. -/
theorem modify_frame {tg : Target} {value flags : Byte → State → Byte} {s t : State}
    (h : tg.modify value flags s = .ok t) :
    ∃ u, BusFrame s u ∧ t = (u.setA t.a).setP t.p := by
  cases tg with
  | acc =>
    cases h
    exact ⟨s, BusFrame.refl s, rfl⟩
  | mem mode =>
    obtain ⟨v, s1, s2, h1, h2, h3⟩ := modify_mem_ok h
    refine ⟨s2, (busRead_frame h1).trans (busWrite_frame h2), ?_⟩
    rw [h3]
    rfl

/-- An indirect jump's target, when both pointer bytes can be read. -/
theorem indirectTarget_ok {ptr target : Word} {s t : State} (h : indirectTarget ptr s = .ok (target, t)) :
    t = s.setW t.w := by
  simp only [indirectTarget, andThen_eq_ok] at h
  obtain ⟨lo, s1, h1, hi, s2, h2, h3⟩ := h
  cases h3
  obtain h' | ⟨_, h'⟩ := busRead_ok h1 <;> obtain h'' | ⟨_, h''⟩ := busRead_ok h2 <;>
    subst h'' <;> subst h' <;> rfl

end Sys2Proof.Machine
end

