-- ==== Sys2Proof/Laws/Meanings.lean ====
section
/-! SUPPORT. One inversion lemma for each shared meaning, for the fetch and for the step: when it answers a next
state, what was read and what the next state is. -/

namespace Sys2Proof.Machine

theorem loadReg_next {r : Reg} {src : Source} {s t : State} :
    loadReg r src s = .next t ↔ ∃ m s1, src.read s = .ok (m, s1) ∧ t = (s1.setReg r m).updateZN m := by
  simp only [loadReg, finish_eq_next, andThen_eq_ok, Except.ok.injEq, eq_comm (b := t)]

theorem storeReg_next {r : Reg} {mode : AddrMode} {s t : State} :
    storeReg r mode s = .next t ↔ busWrite (addrOf mode s) (s.reg r) s = .ok t := by
  simp only [storeReg, effAddr_eq, andThen_ok, finish_eq_next]

theorem addToA_next {adder : Byte → Byte → Bool → Sum} {src : Source} {s t : State} :
    addToA adder src s = .next t ↔ ∃ m s1, src.read s = .ok (m, s1) ∧
      t = (s1.setA (adder s1.a m (s1.flag .c)).r).setP (sumFlags s1.p (adder s1.a m (s1.flag .c))) := by
  simp only [addToA, finish_eq_next, andThen_eq_ok, Except.ok.injEq, eq_comm (b := t)]

theorem logicToA_next {f : Byte → Byte → Byte} {src : Source} {s t : State} :
    logicToA f src s = .next t ↔ ∃ m s1, src.read s = .ok (m, s1) ∧
      t = (s1.setA (f s1.a m)).updateZN (f s1.a m) := by
  simp only [logicToA, finish_eq_next, andThen_eq_ok, Except.ok.injEq, eq_comm (b := t)]

theorem bitTest_next {mode : AddrMode} {s t : State} :
    bitTest mode s = .next t ↔ ∃ m s1, Source.read (.mem mode) s = .ok (m, s1) ∧
      t = s1.setP (bitFlags s1.p s1.a m) := by
  simp only [bitTest, finish_eq_next, andThen_eq_ok, Except.ok.injEq, eq_comm (b := t)]

theorem compareReg_next {r : Reg} {src : Source} {s t : State} :
    compareReg r src s = .next t ↔ ∃ m s1, src.read s = .ok (m, s1) ∧
      t = s1.setP (compareFlags s1.p (s1.reg r) m) := by
  simp only [compareReg, finish_eq_next, andThen_eq_ok, Except.ok.injEq, eq_comm (b := t)]

theorem stepMemory_next {d : Byte} {mode : AddrMode} {s t : State} (h : stepMemory d mode s = .next t) :
    ∃ v s1 s2, busRead (addrOf mode s) s = .ok (v, s1) ∧ busWrite (addrOf mode s) (v + d) s1 = .ok s2 ∧
      t = s2.setP (setZN s1.p (v + d)) := by
  rw [stepMemory, finish_eq_next] at h
  exact modify_mem_ok h

theorem stepMemory_of {d v : Byte} {mode : AddrMode} {s s1 s2 : State}
    (h1 : busRead (addrOf mode s) s = .ok (v, s1)) (h2 : busWrite (addrOf mode s) (v + d) s1 = .ok s2) :
    stepMemory d mode s = .next (s2.setP (setZN s1.p (v + d))) := by
  rw [stepMemory, modify_mem_of h1 h2, finish_ok]

theorem shiftTarget_acc (op : Byte → Bool → Shifted) (s : State) :
    shiftTarget op .acc s =
      .next ((s.setA (op s.a (s.flag .c)).r).setP (shiftFlags s.p (op s.a (s.flag .c)))) := rfl

theorem shiftTarget_mem_next {op : Byte → Bool → Shifted} {mode : AddrMode} {s t : State}
    (h : shiftTarget op (.mem mode) s = .next t) :
    ∃ v s1 s2, busRead (addrOf mode s) s = .ok (v, s1) ∧
      busWrite (addrOf mode s) (op v (s1.flag .c)).r s1 = .ok s2 ∧
      t = s2.setP (shiftFlags s1.p (op v (s1.flag .c))) := by
  rw [shiftTarget, finish_eq_next] at h
  exact modify_mem_ok h

theorem shiftTarget_mem_of {op : Byte → Bool → Shifted} {v : Byte} {mode : AddrMode} {s s1 s2 : State}
    (h1 : busRead (addrOf mode s) s = .ok (v, s1))
    (h2 : busWrite (addrOf mode s) (op v (s1.flag .c)).r s1 = .ok s2) :
    shiftTarget op (.mem mode) s = .next (s2.setP (shiftFlags s1.p (op v (s1.flag .c)))) := by
  rw [shiftTarget, modify_mem_of (value := fun v s1 => (op v (s1.flag .c)).r) h1 h2, finish_ok]

/-- A branch goes to its target or stays, and changes nothing else. -/
theorem branchIf_next (f : Flag) (want : Bool) (rel : Byte) (s : State) : ∃ target, branchIf f want rel s =
    .next (s.setPc target) := by
  unfold branchIf
  split
  · exact ⟨_, rfl⟩
  · exact ⟨s.pc, rfl⟩

/-- The return from a trap, field by field. -/
theorem returnFromBreak_eq (s : State) : returnFromBreak s =
    ((s.setSp (s.sp + 1 + 1 + 1)).setP (Memory.read s.stack (s.sp + 1).toNat)).setPc
      (mkWord (Memory.read s.stack (s.sp + 1 + 1 + 1).toNat) (Memory.read s.stack (s.sp + 1 + 1).toNat)) := rfl

/-! ### Fetch and step -/

theorem readBytes_ok {n : Nat} {addr : Word} {s t : State} {bs : List Byte}
    (h : readBytes n addr s = .ok (bs, t)) : t = s.setW t.w ∧ bs.length = n := by
  induction n generalizing addr s t bs with
  | zero => cases h; exact ⟨rfl, rfl⟩
  | succ n ih =>
    simp only [readBytes, andThen_eq_ok] at h
    obtain ⟨b, s1, h1, rest, s2, h2, h3⟩ := h
    cases h3
    obtain ⟨h4, h5⟩ := ih h2
    refine ⟨?_, by rw [List.length_cons, h5]⟩
    obtain h' | ⟨_, h'⟩ := busRead_ok h1 <;> rw [h4, h'] <;> rfl

/-- A fetch that answers moved `PC` past the opcode byte and changed nothing else but perhaps the toggle. -/
theorem fetch_ok {s t : State} {f : Fetched} (h : fetch s = .ok (f, t)) :
    t = (s.setPc (s.pc + 1)).setW t.w := by
  simp only [fetch, andThen_eq_ok] at h
  obtain ⟨op, s1, h1, h2⟩ := h
  split at h2
  · cases h2
  · rw [andThen_eq_ok] at h2
    obtain ⟨bs, s3, h3, h4⟩ := h2
    obtain ⟨h5, _⟩ := readBytes_ok h3
    split at h4
    · cases h4
      obtain h' | ⟨_, h'⟩ := busRead_ok h1 <;> rw [h5, h'] <;> rfl
    · cases h4

/-- A step that answers ran one instruction on the fetched state of a running machine, and moved only `PC`
afterwards. -/
theorem step_next {s t : State} (h : step s = .next t) : s.halted = .running ∧ ∃ f s1 u,
    fetch (drawStatus s) = .ok (f, s1) ∧ exec f.instr s1 = .next u ∧ t = u.setPc t.pc ∧
      autoAdvance f.op s1.pc (.next u) = .next t := by
  unfold step at h
  split at h
  · cases h
  · rename_i hr
    refine ⟨hr, ?_⟩
    split at h
    · cases h
    · rename_i f s1 hf
      obtain ⟨u, h1, h2⟩ := autoAdvance_next h
      exact ⟨f, s1, u, hf, h1, h2, by rw [← h1]; exact h⟩

end Sys2Proof.Machine
end

