-- ==== Sys2Proof/Laws/Forms.lean ====
section
/-! SUPPORT. What exec is on each shape of instruction: the one shared meaning its arm calls. -/

namespace Sys2Proof.Machine

theorem exec_loadForm {i : Instr} {op : Byte} {r : Reg} {src : Source} (h : LoadForm i op r src) (s : State) :
    exec i s = loadReg r src s := by cases h <;> rfl

theorem exec_storeForm {i : Instr} {op : Byte} {r : Reg} {mode : AddrMode} (h : StoreForm i op r mode)
    (s : State) : exec i s = storeReg r mode s := by cases h <;> rfl

theorem exec_transferForm {i : Instr} {op : Byte} {q r : Reg} (h : TransferForm i op q r) (s : State) :
    exec i s = transferReg q r s := by cases h <;> rfl

theorem exec_adcForm {i : Instr} {op : Byte} {src : Source} (h : AdcForm i op src) (s : State) :
    exec i s = addToA addCarry src s := by cases h <;> rfl

theorem exec_sbcForm {i : Instr} {op : Byte} {src : Source} (h : SbcForm i op src) (s : State) :
    exec i s = addToA subBorrow src s := by cases h <;> rfl

theorem exec_andForm {i : Instr} {op : Byte} {src : Source} (h : AndForm i op src) (s : State) :
    exec i s = logicToA (· &&& ·) src s := by cases h <;> rfl

theorem exec_oraForm {i : Instr} {op : Byte} {src : Source} (h : OraForm i op src) (s : State) :
    exec i s = logicToA (· ||| ·) src s := by cases h <;> rfl

theorem exec_eorForm {i : Instr} {op : Byte} {src : Source} (h : EorForm i op src) (s : State) :
    exec i s = logicToA (· ^^^ ·) src s := by cases h <;> rfl

theorem exec_bitForm {i : Instr} {op : Byte} {mode : AddrMode} (h : BitForm i op mode) (s : State) :
    exec i s = bitTest mode s := by cases h <;> rfl

theorem exec_compareForm {i : Instr} {op : Byte} {r : Reg} {src : Source} (h : CompareForm i op r src)
    (s : State) : exec i s = compareReg r src s := by cases h <;> rfl

theorem exec_incForm {i : Instr} {op : Byte} {mode : AddrMode} (h : IncForm i op mode) (s : State) :
    exec i s = stepMemory 1 mode s := by cases h <;> rfl

theorem exec_decForm {i : Instr} {op : Byte} {mode : AddrMode} (h : DecForm i op mode) (s : State) :
    exec i s = stepMemory (-1) mode s := by cases h <;> rfl

theorem exec_stepRegForm {i : Instr} {op : Byte} {r : Reg} {d : Nat} (h : StepRegForm i op r d) (s : State) :
    exec i s = stepReg r (BitVec.ofNat 8 d) s := by cases h <;> rfl

/-- The byte function of a shift kind. -/
def ShiftKind.fn : ShiftKind → Byte → Bool → Shifted
  | .asl => shiftLeft
  | .lsr => shiftRight
  | .rol => rotateLeft
  | .ror => rotateRight

theorem exec_shiftForm {i : Instr} {op : Byte} {k : ShiftKind} {tg : Target} (h : ShiftForm i op k tg)
    (s : State) : exec i s = shiftTarget k.fn tg s := by cases h <;> rfl

theorem exec_branchForm {i : Instr} {op : Byte} {f : Flag} {v : Bool} {rel : Byte}
    (h : BranchForm i op f v rel) (s : State) : exec i s = branchIf f v rel s := by cases h <;> rfl

theorem exec_flagForm {i : Instr} {op : Byte} {f : Flag} {v : Bool} (h : FlagForm i op f v) (s : State) :
    exec i s = .next (s.setFlag f v) := by cases h <;> rfl

/-- The shapes of the instructions. -/
inductive Shape : Instr → Prop where
  | load {i op r src} (h : LoadForm i op r src) : Shape i
  | store {i op r mode} (h : StoreForm i op r mode) : Shape i
  | transfer {i op q r} (h : TransferForm i op q r) : Shape i
  | adc {i op src} (h : AdcForm i op src) : Shape i
  | sbc {i op src} (h : SbcForm i op src) : Shape i
  | and {i op src} (h : AndForm i op src) : Shape i
  | ora {i op src} (h : OraForm i op src) : Shape i
  | eor {i op src} (h : EorForm i op src) : Shape i
  | bit {i op mode} (h : BitForm i op mode) : Shape i
  | compare {i op r src} (h : CompareForm i op r src) : Shape i
  | inc {i op mode} (h : IncForm i op mode) : Shape i
  | dec {i op mode} (h : DecForm i op mode) : Shape i
  | stepReg {i op r d} (h : StepRegForm i op r d) : Shape i
  | shift {i op k tg} (h : ShiftForm i op k tg) : Shape i
  | branch {i op f v rel} (h : BranchForm i op f v rel) : Shape i
  | flagOp {i op f v} (h : FlagForm i op f v) : Shape i
  | txs : Shape .txs
  | jmpAbs (addr) : Shape (.jmpAbs addr)
  | jmpInd (ptr) : Shape (.jmpInd ptr)
  | jsr (addr) : Shape (.jsr addr)
  | rts : Shape .rts
  | pha : Shape .pha
  | php : Shape .php
  | pla : Shape .pla
  | plp : Shape .plp
  | nop : Shape .nop
  | brk : Shape .brk
  | rti : Shape .rti

/-- Every instruction has a shape: the case split of exec by shape instead of by constructor. -/
theorem shape_of : ∀ i : Instr, Shape i
  | .ldaImm v => .load (.ldaImm v)
  | .ldaZp z => .load (.ldaZp z)
  | .ldaZpx z => .load (.ldaZpx z)
  | .ldaAbs addr => .load (.ldaAbs addr)
  | .ldaAbsx addr => .load (.ldaAbsx addr)
  | .ldaAbsy addr => .load (.ldaAbsy addr)
  | .ldaIndx z => .load (.ldaIndx z)
  | .ldaIndy z => .load (.ldaIndy z)
  | .ldxImm v => .load (.ldxImm v)
  | .ldxZp z => .load (.ldxZp z)
  | .ldxZpy z => .load (.ldxZpy z)
  | .ldxAbs addr => .load (.ldxAbs addr)
  | .ldxAbsy addr => .load (.ldxAbsy addr)
  | .ldyImm v => .load (.ldyImm v)
  | .ldyZp z => .load (.ldyZp z)
  | .ldyZpx z => .load (.ldyZpx z)
  | .ldyAbs addr => .load (.ldyAbs addr)
  | .ldyAbsx addr => .load (.ldyAbsx addr)
  | .staZp z => .store (.staZp z)
  | .staZpx z => .store (.staZpx z)
  | .staAbs addr => .store (.staAbs addr)
  | .staAbsx addr => .store (.staAbsx addr)
  | .staAbsy addr => .store (.staAbsy addr)
  | .staIndx z => .store (.staIndx z)
  | .staIndy z => .store (.staIndy z)
  | .stxZp z => .store (.stxZp z)
  | .stxZpy z => .store (.stxZpy z)
  | .stxAbs addr => .store (.stxAbs addr)
  | .styZp z => .store (.styZp z)
  | .styZpx z => .store (.styZpx z)
  | .styAbs addr => .store (.styAbs addr)
  | .tax => .transfer .tax
  | .tay => .transfer .tay
  | .txa => .transfer .txa
  | .tya => .transfer .tya
  | .tsx => .transfer .tsx
  | .txs => .txs
  | .adcImm v => .adc (.adcImm v)
  | .adcZp z => .adc (.adcZp z)
  | .adcZpx z => .adc (.adcZpx z)
  | .adcAbs addr => .adc (.adcAbs addr)
  | .adcAbsx addr => .adc (.adcAbsx addr)
  | .adcAbsy addr => .adc (.adcAbsy addr)
  | .adcIndx z => .adc (.adcIndx z)
  | .adcIndy z => .adc (.adcIndy z)
  | .sbcImm v => .sbc (.sbcImm v)
  | .sbcZp z => .sbc (.sbcZp z)
  | .sbcZpx z => .sbc (.sbcZpx z)
  | .sbcAbs addr => .sbc (.sbcAbs addr)
  | .sbcAbsx addr => .sbc (.sbcAbsx addr)
  | .sbcAbsy addr => .sbc (.sbcAbsy addr)
  | .sbcIndx z => .sbc (.sbcIndx z)
  | .sbcIndy z => .sbc (.sbcIndy z)
  | .andImm v => .and (.andImm v)
  | .andZp z => .and (.andZp z)
  | .andZpx z => .and (.andZpx z)
  | .andAbs addr => .and (.andAbs addr)
  | .andAbsx addr => .and (.andAbsx addr)
  | .andAbsy addr => .and (.andAbsy addr)
  | .andIndx z => .and (.andIndx z)
  | .andIndy z => .and (.andIndy z)
  | .oraImm v => .ora (.oraImm v)
  | .oraZp z => .ora (.oraZp z)
  | .oraZpx z => .ora (.oraZpx z)
  | .oraAbs addr => .ora (.oraAbs addr)
  | .oraAbsx addr => .ora (.oraAbsx addr)
  | .oraAbsy addr => .ora (.oraAbsy addr)
  | .oraIndx z => .ora (.oraIndx z)
  | .oraIndy z => .ora (.oraIndy z)
  | .eorImm v => .eor (.eorImm v)
  | .eorZp z => .eor (.eorZp z)
  | .eorZpx z => .eor (.eorZpx z)
  | .eorAbs addr => .eor (.eorAbs addr)
  | .eorAbsx addr => .eor (.eorAbsx addr)
  | .eorAbsy addr => .eor (.eorAbsy addr)
  | .eorIndx z => .eor (.eorIndx z)
  | .eorIndy z => .eor (.eorIndy z)
  | .bitZp z => .bit (.bitZp z)
  | .bitAbs addr => .bit (.bitAbs addr)
  | .cmpImm v => .compare (.cmpImm v)
  | .cmpZp z => .compare (.cmpZp z)
  | .cmpZpx z => .compare (.cmpZpx z)
  | .cmpAbs addr => .compare (.cmpAbs addr)
  | .cmpAbsx addr => .compare (.cmpAbsx addr)
  | .cmpAbsy addr => .compare (.cmpAbsy addr)
  | .cmpIndx z => .compare (.cmpIndx z)
  | .cmpIndy z => .compare (.cmpIndy z)
  | .cpxImm v => .compare (.cpxImm v)
  | .cpxZp z => .compare (.cpxZp z)
  | .cpxAbs addr => .compare (.cpxAbs addr)
  | .cpyImm v => .compare (.cpyImm v)
  | .cpyZp z => .compare (.cpyZp z)
  | .cpyAbs addr => .compare (.cpyAbs addr)
  | .incZp z => .inc (.incZp z)
  | .incZpx z => .inc (.incZpx z)
  | .incAbs addr => .inc (.incAbs addr)
  | .incAbsx addr => .inc (.incAbsx addr)
  | .decZp z => .dec (.decZp z)
  | .decZpx z => .dec (.decZpx z)
  | .decAbs addr => .dec (.decAbs addr)
  | .decAbsx addr => .dec (.decAbsx addr)
  | .inx => .stepReg .inx
  | .iny => .stepReg .iny
  | .dex => .stepReg .dex
  | .dey => .stepReg .dey
  | .aslAcc => .shift .aslAcc
  | .aslZp z => .shift (.aslZp z)
  | .aslZpx z => .shift (.aslZpx z)
  | .aslAbs addr => .shift (.aslAbs addr)
  | .aslAbsx addr => .shift (.aslAbsx addr)
  | .lsrAcc => .shift .lsrAcc
  | .lsrZp z => .shift (.lsrZp z)
  | .lsrZpx z => .shift (.lsrZpx z)
  | .lsrAbs addr => .shift (.lsrAbs addr)
  | .lsrAbsx addr => .shift (.lsrAbsx addr)
  | .rolAcc => .shift .rolAcc
  | .rolZp z => .shift (.rolZp z)
  | .rolZpx z => .shift (.rolZpx z)
  | .rolAbs addr => .shift (.rolAbs addr)
  | .rolAbsx addr => .shift (.rolAbsx addr)
  | .rorAcc => .shift .rorAcc
  | .rorZp z => .shift (.rorZp z)
  | .rorZpx z => .shift (.rorZpx z)
  | .rorAbs addr => .shift (.rorAbs addr)
  | .rorAbsx addr => .shift (.rorAbsx addr)
  | .jmpAbs addr => .jmpAbs addr
  | .jmpInd ptr => .jmpInd ptr
  | .jsr addr => .jsr addr
  | .rts => .rts
  | .bcc rel => .branch (.bcc rel)
  | .bcs rel => .branch (.bcs rel)
  | .beq rel => .branch (.beq rel)
  | .bne rel => .branch (.bne rel)
  | .bmi rel => .branch (.bmi rel)
  | .bpl rel => .branch (.bpl rel)
  | .bvc rel => .branch (.bvc rel)
  | .bvs rel => .branch (.bvs rel)
  | .pha => .pha
  | .php => .php
  | .pla => .pla
  | .plp => .plp
  | .clc => .flagOp .clc
  | .cld => .flagOp .cld
  | .cli => .flagOp .cli
  | .clv => .flagOp .clv
  | .sec => .flagOp .sec
  | .sed => .flagOp .sed
  | .sei => .flagOp .sei
  | .nop => .nop
  | .brk => .brk
  | .rti => .rti

end Sys2Proof.Machine
end

