-- ==== Sys2Proof/Laws/HostMoves.lean ====
section
/-! SUPPORT. What the host's moves answer, and what the machine is after them. -/

namespace Sys2Proof.Machine

/-- The common end of `load` and `reset()` never faults: the reset vector lies in ROM (R296). -/
theorem seedRegisters_eq (s : State) : seedRegisters s =
    .next ((((((((s.setA 0).setX 0).setY 0).setSp 0).setP 0)).setHalted .running).setPc (resetTarget s)) := by
  simp only [seedRegisters, memRead16_resetVector, andThen_ok, finish_ok]
  rfl

theorem hostReset_eq (s : State) : hostReset s =
    .next ((((((((s.setA 0).setX 0).setY 0).setSp 0).setP 0)).setHalted .running).setPc (resetTarget s)) :=
  seedRegisters_eq s

@[simp] theorem prgSizeOf_bytes (size : PrgSize) : prgSizeOf size.bytes = some size := by cases size <;> rfl
@[simp] theorem chrSizeOf_bytes (size : ChrSize) : chrSizeOf size.bytes = some size := by cases size <;> rfl

theorem prgSizeOf_eq_some {n : Nat} {size : PrgSize} : prgSizeOf n = some size ↔ n = size.bytes := by
  refine ⟨fun h => ?_, fun h => h ▸ prgSizeOf_bytes size⟩
  unfold prgSizeOf at h
  split at h
  · cases h; assumption
  · split at h
    · cases h; assumption
    · cases h

theorem chrSizeOf_eq_some {n : Nat} {size : ChrSize} : chrSizeOf n = some size ↔ n = size.bytes := by
  refine ⟨fun h => ?_, fun h => h ▸ chrSizeOf_bytes size⟩
  unfold chrSizeOf at h
  split at h
  · cases h; assumption
  · split at h
    · cases h; assumption
    · cases h

/-- Everything `load` can do: with admitted lengths it seeds the registers of the installed state, otherwise it
refuses with the lengths. -/
theorem load_cases (rom : Cartridge) (init : InitMem) (vs : List Byte) :
    (∃ prgSize chrSize, rom.prg.length = prgSize.bytes ∧ rom.chr.length = chrSize.bytes ∧
      load rom init vs = seedRegisters (installed rom prgSize chrSize init vs)) ∨
    ((∀ prgSize : PrgSize, ∀ chrSize : ChrSize, ¬(rom.prg.length = prgSize.bytes ∧ rom.chr.length = chrSize.bytes)) ∧
      load rom init vs = .refused (.cartridgeSize rom.prg.length rom.chr.length)) := by
  cases hp : prgSizeOf rom.prg.length with
  | none => exact .inr ⟨fun p _ h => (by rw [h.1, prgSizeOf_bytes] at hp; cases hp), by rw [load, hp]⟩
  | some p =>
    cases hc : chrSizeOf rom.chr.length with
    | none => exact .inr ⟨fun _ c h => (by rw [h.2, chrSizeOf_bytes] at hc; cases hc), by rw [load, hp, hc]⟩
    | some c =>
      exact .inl ⟨p, c, prgSizeOf_eq_some.mp hp, chrSizeOf_eq_some.mp hc, by rw [load, hp, hc]⟩

/-- A load never faults by itself: its faults are the cartridge file's. -/
theorem load_ne_fault (rom : Cartridge) (init : InitMem) (vs : List Byte) (f : Fault) :
    load rom init vs ≠ .fault f := by
  obtain ⟨p, c, _, _, h⟩ | ⟨_, h⟩ := load_cases rom init vs <;> rw [h]
  · rw [seedRegisters_eq]; nofun
  · nofun

/-- The lengths R294 admits are those of the two sizes each. -/
theorem Cartridge.sized_iff (rom : Cartridge) : rom.sized ↔
    ∃ (prgSize : PrgSize) (chrSize : ChrSize), rom.prg.length = prgSize.bytes ∧ rom.chr.length = chrSize.bytes := by
  constructor
  · rintro ⟨hp | hp, hc | hc⟩
    · exact ⟨.kib16, .none, hp, hc⟩
    · exact ⟨.kib16, .kib8, hp, hc⟩
    · exact ⟨.kib32, .none, hp, hc⟩
    · exact ⟨.kib32, .kib8, hp, hc⟩
  · rintro ⟨p, c, hp, hc⟩
    exact ⟨by cases p <;> simp_all [PrgSize.bytes], by cases c <;> simp_all [ChrSize.bytes]⟩

theorem load_of_lengths {rom : Cartridge} {prgSize : PrgSize} {chrSize : ChrSize} (init : InitMem)
    (vs : List Byte) (hp : rom.prg.length = prgSize.bytes) (hc : rom.chr.length = chrSize.bytes) :
    load rom init vs = seedRegisters (installed rom prgSize chrSize init vs) := by
  rw [load, hp, hc, prgSizeOf_bytes, chrSizeOf_bytes]

theorem cartridgeBody_eq (b6 : Byte) (file : List Byte) :
    cartridgeBody b6 file = file.drop (bodyStart b6) := by
  unfold cartridgeBody bodyStart
  split <;> rfl

/-- The word the reset vector holds, as a number (R55, R290). -/
theorem resetTarget_toNat (s : State) : (resetTarget s).toNat =
    wordOf (s.byte .prg (0x7FFD % s.prgSize.bytes)) (s.byte .prg (0x7FFC % s.prgSize.bytes)) := by
  unfold resetTarget
  rw [mkWord_toNat]
  rfl

/-- The machine of a faulting move is faulted, and stays so at every step. -/
@[simp] theorem settle_fault (unknown : State) (f : Fault) :
    settle unknown (.fault f) = unknown.setHalted (.faulted f) := rfl
@[simp] theorem settle_next (unknown t : State) : settle unknown (.next t) = t := rfl

theorem step_of_faulted {s : State} {f : Fault} (h : s.halted = .faulted f) : step s = .fault f := by
  rw [step, h]

end Sys2Proof.Machine
end

