-- ==== Sys2Proof/Laws/PerInstr.lean ====
section
/-! SUPPORT. One law for every instruction as syntax: it is well formed, and its encoding is as long as the length
table says for its opcode byte (R105, R107). -/

namespace Sys2Proof.Laws.EncodedLength

/-- The instruction passes the lock-step checks of its opcode byte (`IMPLEMENTED`, `LEN`), and its encoding is
that byte and at most two operand bytes. -/
def Statement (i : Instr) : Prop :=
  wellFormed i = true ∧ ∃ op operands, encode i = op :: operands ∧ operands.length ≤ 2

theorem ldaImm (v : Byte) : Statement (.ldaImm v) := ⟨rfl, _, _, rfl, Nat.le_of_ble_eq_true rfl⟩
theorem ldaZp (z : Byte) : Statement (.ldaZp z) := ⟨rfl, _, _, rfl, Nat.le_of_ble_eq_true rfl⟩
theorem ldaZpx (z : Byte) : Statement (.ldaZpx z) := ⟨rfl, _, _, rfl, Nat.le_of_ble_eq_true rfl⟩
theorem ldaAbs (addr : Word) : Statement (.ldaAbs addr) := ⟨rfl, _, _, rfl, Nat.le_of_ble_eq_true rfl⟩
theorem ldaAbsx (addr : Word) : Statement (.ldaAbsx addr) := ⟨rfl, _, _, rfl, Nat.le_of_ble_eq_true rfl⟩
theorem ldaAbsy (addr : Word) : Statement (.ldaAbsy addr) := ⟨rfl, _, _, rfl, Nat.le_of_ble_eq_true rfl⟩
theorem ldaIndx (z : Byte) : Statement (.ldaIndx z) := ⟨rfl, _, _, rfl, Nat.le_of_ble_eq_true rfl⟩
theorem ldaIndy (z : Byte) : Statement (.ldaIndy z) := ⟨rfl, _, _, rfl, Nat.le_of_ble_eq_true rfl⟩
theorem ldxImm (v : Byte) : Statement (.ldxImm v) := ⟨rfl, _, _, rfl, Nat.le_of_ble_eq_true rfl⟩
theorem ldxZp (z : Byte) : Statement (.ldxZp z) := ⟨rfl, _, _, rfl, Nat.le_of_ble_eq_true rfl⟩
theorem ldxZpy (z : Byte) : Statement (.ldxZpy z) := ⟨rfl, _, _, rfl, Nat.le_of_ble_eq_true rfl⟩
theorem ldxAbs (addr : Word) : Statement (.ldxAbs addr) := ⟨rfl, _, _, rfl, Nat.le_of_ble_eq_true rfl⟩
theorem ldxAbsy (addr : Word) : Statement (.ldxAbsy addr) := ⟨rfl, _, _, rfl, Nat.le_of_ble_eq_true rfl⟩
theorem ldyImm (v : Byte) : Statement (.ldyImm v) := ⟨rfl, _, _, rfl, Nat.le_of_ble_eq_true rfl⟩
theorem ldyZp (z : Byte) : Statement (.ldyZp z) := ⟨rfl, _, _, rfl, Nat.le_of_ble_eq_true rfl⟩
theorem ldyZpx (z : Byte) : Statement (.ldyZpx z) := ⟨rfl, _, _, rfl, Nat.le_of_ble_eq_true rfl⟩
theorem ldyAbs (addr : Word) : Statement (.ldyAbs addr) := ⟨rfl, _, _, rfl, Nat.le_of_ble_eq_true rfl⟩
theorem ldyAbsx (addr : Word) : Statement (.ldyAbsx addr) := ⟨rfl, _, _, rfl, Nat.le_of_ble_eq_true rfl⟩
theorem staZp (z : Byte) : Statement (.staZp z) := ⟨rfl, _, _, rfl, Nat.le_of_ble_eq_true rfl⟩
theorem staZpx (z : Byte) : Statement (.staZpx z) := ⟨rfl, _, _, rfl, Nat.le_of_ble_eq_true rfl⟩
theorem staAbs (addr : Word) : Statement (.staAbs addr) := ⟨rfl, _, _, rfl, Nat.le_of_ble_eq_true rfl⟩
theorem staAbsx (addr : Word) : Statement (.staAbsx addr) := ⟨rfl, _, _, rfl, Nat.le_of_ble_eq_true rfl⟩
theorem staAbsy (addr : Word) : Statement (.staAbsy addr) := ⟨rfl, _, _, rfl, Nat.le_of_ble_eq_true rfl⟩
theorem staIndx (z : Byte) : Statement (.staIndx z) := ⟨rfl, _, _, rfl, Nat.le_of_ble_eq_true rfl⟩
theorem staIndy (z : Byte) : Statement (.staIndy z) := ⟨rfl, _, _, rfl, Nat.le_of_ble_eq_true rfl⟩
theorem stxZp (z : Byte) : Statement (.stxZp z) := ⟨rfl, _, _, rfl, Nat.le_of_ble_eq_true rfl⟩
theorem stxZpy (z : Byte) : Statement (.stxZpy z) := ⟨rfl, _, _, rfl, Nat.le_of_ble_eq_true rfl⟩
theorem stxAbs (addr : Word) : Statement (.stxAbs addr) := ⟨rfl, _, _, rfl, Nat.le_of_ble_eq_true rfl⟩
theorem styZp (z : Byte) : Statement (.styZp z) := ⟨rfl, _, _, rfl, Nat.le_of_ble_eq_true rfl⟩
theorem styZpx (z : Byte) : Statement (.styZpx z) := ⟨rfl, _, _, rfl, Nat.le_of_ble_eq_true rfl⟩
theorem styAbs (addr : Word) : Statement (.styAbs addr) := ⟨rfl, _, _, rfl, Nat.le_of_ble_eq_true rfl⟩
theorem tax : Statement .tax := ⟨rfl, _, _, rfl, Nat.le_of_ble_eq_true rfl⟩
theorem tay : Statement .tay := ⟨rfl, _, _, rfl, Nat.le_of_ble_eq_true rfl⟩
theorem txa : Statement .txa := ⟨rfl, _, _, rfl, Nat.le_of_ble_eq_true rfl⟩
theorem tya : Statement .tya := ⟨rfl, _, _, rfl, Nat.le_of_ble_eq_true rfl⟩
theorem tsx : Statement .tsx := ⟨rfl, _, _, rfl, Nat.le_of_ble_eq_true rfl⟩
theorem txs : Statement .txs := ⟨rfl, _, _, rfl, Nat.le_of_ble_eq_true rfl⟩
theorem adcImm (v : Byte) : Statement (.adcImm v) := ⟨rfl, _, _, rfl, Nat.le_of_ble_eq_true rfl⟩
theorem adcZp (z : Byte) : Statement (.adcZp z) := ⟨rfl, _, _, rfl, Nat.le_of_ble_eq_true rfl⟩
theorem adcZpx (z : Byte) : Statement (.adcZpx z) := ⟨rfl, _, _, rfl, Nat.le_of_ble_eq_true rfl⟩
theorem adcAbs (addr : Word) : Statement (.adcAbs addr) := ⟨rfl, _, _, rfl, Nat.le_of_ble_eq_true rfl⟩
theorem adcAbsx (addr : Word) : Statement (.adcAbsx addr) := ⟨rfl, _, _, rfl, Nat.le_of_ble_eq_true rfl⟩
theorem adcAbsy (addr : Word) : Statement (.adcAbsy addr) := ⟨rfl, _, _, rfl, Nat.le_of_ble_eq_true rfl⟩
theorem adcIndx (z : Byte) : Statement (.adcIndx z) := ⟨rfl, _, _, rfl, Nat.le_of_ble_eq_true rfl⟩
theorem adcIndy (z : Byte) : Statement (.adcIndy z) := ⟨rfl, _, _, rfl, Nat.le_of_ble_eq_true rfl⟩
theorem sbcImm (v : Byte) : Statement (.sbcImm v) := ⟨rfl, _, _, rfl, Nat.le_of_ble_eq_true rfl⟩
theorem sbcZp (z : Byte) : Statement (.sbcZp z) := ⟨rfl, _, _, rfl, Nat.le_of_ble_eq_true rfl⟩
theorem sbcZpx (z : Byte) : Statement (.sbcZpx z) := ⟨rfl, _, _, rfl, Nat.le_of_ble_eq_true rfl⟩
theorem sbcAbs (addr : Word) : Statement (.sbcAbs addr) := ⟨rfl, _, _, rfl, Nat.le_of_ble_eq_true rfl⟩
theorem sbcAbsx (addr : Word) : Statement (.sbcAbsx addr) := ⟨rfl, _, _, rfl, Nat.le_of_ble_eq_true rfl⟩
theorem sbcAbsy (addr : Word) : Statement (.sbcAbsy addr) := ⟨rfl, _, _, rfl, Nat.le_of_ble_eq_true rfl⟩
theorem sbcIndx (z : Byte) : Statement (.sbcIndx z) := ⟨rfl, _, _, rfl, Nat.le_of_ble_eq_true rfl⟩
theorem sbcIndy (z : Byte) : Statement (.sbcIndy z) := ⟨rfl, _, _, rfl, Nat.le_of_ble_eq_true rfl⟩
theorem andImm (v : Byte) : Statement (.andImm v) := ⟨rfl, _, _, rfl, Nat.le_of_ble_eq_true rfl⟩
theorem andZp (z : Byte) : Statement (.andZp z) := ⟨rfl, _, _, rfl, Nat.le_of_ble_eq_true rfl⟩
theorem andZpx (z : Byte) : Statement (.andZpx z) := ⟨rfl, _, _, rfl, Nat.le_of_ble_eq_true rfl⟩
theorem andAbs (addr : Word) : Statement (.andAbs addr) := ⟨rfl, _, _, rfl, Nat.le_of_ble_eq_true rfl⟩
theorem andAbsx (addr : Word) : Statement (.andAbsx addr) := ⟨rfl, _, _, rfl, Nat.le_of_ble_eq_true rfl⟩
theorem andAbsy (addr : Word) : Statement (.andAbsy addr) := ⟨rfl, _, _, rfl, Nat.le_of_ble_eq_true rfl⟩
theorem andIndx (z : Byte) : Statement (.andIndx z) := ⟨rfl, _, _, rfl, Nat.le_of_ble_eq_true rfl⟩
theorem andIndy (z : Byte) : Statement (.andIndy z) := ⟨rfl, _, _, rfl, Nat.le_of_ble_eq_true rfl⟩
theorem oraImm (v : Byte) : Statement (.oraImm v) := ⟨rfl, _, _, rfl, Nat.le_of_ble_eq_true rfl⟩
theorem oraZp (z : Byte) : Statement (.oraZp z) := ⟨rfl, _, _, rfl, Nat.le_of_ble_eq_true rfl⟩
theorem oraZpx (z : Byte) : Statement (.oraZpx z) := ⟨rfl, _, _, rfl, Nat.le_of_ble_eq_true rfl⟩
theorem oraAbs (addr : Word) : Statement (.oraAbs addr) := ⟨rfl, _, _, rfl, Nat.le_of_ble_eq_true rfl⟩
theorem oraAbsx (addr : Word) : Statement (.oraAbsx addr) := ⟨rfl, _, _, rfl, Nat.le_of_ble_eq_true rfl⟩
theorem oraAbsy (addr : Word) : Statement (.oraAbsy addr) := ⟨rfl, _, _, rfl, Nat.le_of_ble_eq_true rfl⟩
theorem oraIndx (z : Byte) : Statement (.oraIndx z) := ⟨rfl, _, _, rfl, Nat.le_of_ble_eq_true rfl⟩
theorem oraIndy (z : Byte) : Statement (.oraIndy z) := ⟨rfl, _, _, rfl, Nat.le_of_ble_eq_true rfl⟩
theorem eorImm (v : Byte) : Statement (.eorImm v) := ⟨rfl, _, _, rfl, Nat.le_of_ble_eq_true rfl⟩
theorem eorZp (z : Byte) : Statement (.eorZp z) := ⟨rfl, _, _, rfl, Nat.le_of_ble_eq_true rfl⟩
theorem eorZpx (z : Byte) : Statement (.eorZpx z) := ⟨rfl, _, _, rfl, Nat.le_of_ble_eq_true rfl⟩
theorem eorAbs (addr : Word) : Statement (.eorAbs addr) := ⟨rfl, _, _, rfl, Nat.le_of_ble_eq_true rfl⟩
theorem eorAbsx (addr : Word) : Statement (.eorAbsx addr) := ⟨rfl, _, _, rfl, Nat.le_of_ble_eq_true rfl⟩
theorem eorAbsy (addr : Word) : Statement (.eorAbsy addr) := ⟨rfl, _, _, rfl, Nat.le_of_ble_eq_true rfl⟩
theorem eorIndx (z : Byte) : Statement (.eorIndx z) := ⟨rfl, _, _, rfl, Nat.le_of_ble_eq_true rfl⟩
theorem eorIndy (z : Byte) : Statement (.eorIndy z) := ⟨rfl, _, _, rfl, Nat.le_of_ble_eq_true rfl⟩
theorem bitZp (z : Byte) : Statement (.bitZp z) := ⟨rfl, _, _, rfl, Nat.le_of_ble_eq_true rfl⟩
theorem bitAbs (addr : Word) : Statement (.bitAbs addr) := ⟨rfl, _, _, rfl, Nat.le_of_ble_eq_true rfl⟩
theorem cmpImm (v : Byte) : Statement (.cmpImm v) := ⟨rfl, _, _, rfl, Nat.le_of_ble_eq_true rfl⟩
theorem cmpZp (z : Byte) : Statement (.cmpZp z) := ⟨rfl, _, _, rfl, Nat.le_of_ble_eq_true rfl⟩
theorem cmpZpx (z : Byte) : Statement (.cmpZpx z) := ⟨rfl, _, _, rfl, Nat.le_of_ble_eq_true rfl⟩
theorem cmpAbs (addr : Word) : Statement (.cmpAbs addr) := ⟨rfl, _, _, rfl, Nat.le_of_ble_eq_true rfl⟩
theorem cmpAbsx (addr : Word) : Statement (.cmpAbsx addr) := ⟨rfl, _, _, rfl, Nat.le_of_ble_eq_true rfl⟩
theorem cmpAbsy (addr : Word) : Statement (.cmpAbsy addr) := ⟨rfl, _, _, rfl, Nat.le_of_ble_eq_true rfl⟩
theorem cmpIndx (z : Byte) : Statement (.cmpIndx z) := ⟨rfl, _, _, rfl, Nat.le_of_ble_eq_true rfl⟩
theorem cmpIndy (z : Byte) : Statement (.cmpIndy z) := ⟨rfl, _, _, rfl, Nat.le_of_ble_eq_true rfl⟩
theorem cpxImm (v : Byte) : Statement (.cpxImm v) := ⟨rfl, _, _, rfl, Nat.le_of_ble_eq_true rfl⟩
theorem cpxZp (z : Byte) : Statement (.cpxZp z) := ⟨rfl, _, _, rfl, Nat.le_of_ble_eq_true rfl⟩
theorem cpxAbs (addr : Word) : Statement (.cpxAbs addr) := ⟨rfl, _, _, rfl, Nat.le_of_ble_eq_true rfl⟩
theorem cpyImm (v : Byte) : Statement (.cpyImm v) := ⟨rfl, _, _, rfl, Nat.le_of_ble_eq_true rfl⟩
theorem cpyZp (z : Byte) : Statement (.cpyZp z) := ⟨rfl, _, _, rfl, Nat.le_of_ble_eq_true rfl⟩
theorem cpyAbs (addr : Word) : Statement (.cpyAbs addr) := ⟨rfl, _, _, rfl, Nat.le_of_ble_eq_true rfl⟩
theorem incZp (z : Byte) : Statement (.incZp z) := ⟨rfl, _, _, rfl, Nat.le_of_ble_eq_true rfl⟩
theorem incZpx (z : Byte) : Statement (.incZpx z) := ⟨rfl, _, _, rfl, Nat.le_of_ble_eq_true rfl⟩
theorem incAbs (addr : Word) : Statement (.incAbs addr) := ⟨rfl, _, _, rfl, Nat.le_of_ble_eq_true rfl⟩
theorem incAbsx (addr : Word) : Statement (.incAbsx addr) := ⟨rfl, _, _, rfl, Nat.le_of_ble_eq_true rfl⟩
theorem decZp (z : Byte) : Statement (.decZp z) := ⟨rfl, _, _, rfl, Nat.le_of_ble_eq_true rfl⟩
theorem decZpx (z : Byte) : Statement (.decZpx z) := ⟨rfl, _, _, rfl, Nat.le_of_ble_eq_true rfl⟩
theorem decAbs (addr : Word) : Statement (.decAbs addr) := ⟨rfl, _, _, rfl, Nat.le_of_ble_eq_true rfl⟩
theorem decAbsx (addr : Word) : Statement (.decAbsx addr) := ⟨rfl, _, _, rfl, Nat.le_of_ble_eq_true rfl⟩
theorem inx : Statement .inx := ⟨rfl, _, _, rfl, Nat.le_of_ble_eq_true rfl⟩
theorem iny : Statement .iny := ⟨rfl, _, _, rfl, Nat.le_of_ble_eq_true rfl⟩
theorem dex : Statement .dex := ⟨rfl, _, _, rfl, Nat.le_of_ble_eq_true rfl⟩
theorem dey : Statement .dey := ⟨rfl, _, _, rfl, Nat.le_of_ble_eq_true rfl⟩
theorem aslAcc : Statement .aslAcc := ⟨rfl, _, _, rfl, Nat.le_of_ble_eq_true rfl⟩
theorem aslZp (z : Byte) : Statement (.aslZp z) := ⟨rfl, _, _, rfl, Nat.le_of_ble_eq_true rfl⟩
theorem aslZpx (z : Byte) : Statement (.aslZpx z) := ⟨rfl, _, _, rfl, Nat.le_of_ble_eq_true rfl⟩
theorem aslAbs (addr : Word) : Statement (.aslAbs addr) := ⟨rfl, _, _, rfl, Nat.le_of_ble_eq_true rfl⟩
theorem aslAbsx (addr : Word) : Statement (.aslAbsx addr) := ⟨rfl, _, _, rfl, Nat.le_of_ble_eq_true rfl⟩
theorem lsrAcc : Statement .lsrAcc := ⟨rfl, _, _, rfl, Nat.le_of_ble_eq_true rfl⟩
theorem lsrZp (z : Byte) : Statement (.lsrZp z) := ⟨rfl, _, _, rfl, Nat.le_of_ble_eq_true rfl⟩
theorem lsrZpx (z : Byte) : Statement (.lsrZpx z) := ⟨rfl, _, _, rfl, Nat.le_of_ble_eq_true rfl⟩
theorem lsrAbs (addr : Word) : Statement (.lsrAbs addr) := ⟨rfl, _, _, rfl, Nat.le_of_ble_eq_true rfl⟩
theorem lsrAbsx (addr : Word) : Statement (.lsrAbsx addr) := ⟨rfl, _, _, rfl, Nat.le_of_ble_eq_true rfl⟩
theorem rolAcc : Statement .rolAcc := ⟨rfl, _, _, rfl, Nat.le_of_ble_eq_true rfl⟩
theorem rolZp (z : Byte) : Statement (.rolZp z) := ⟨rfl, _, _, rfl, Nat.le_of_ble_eq_true rfl⟩
theorem rolZpx (z : Byte) : Statement (.rolZpx z) := ⟨rfl, _, _, rfl, Nat.le_of_ble_eq_true rfl⟩
theorem rolAbs (addr : Word) : Statement (.rolAbs addr) := ⟨rfl, _, _, rfl, Nat.le_of_ble_eq_true rfl⟩
theorem rolAbsx (addr : Word) : Statement (.rolAbsx addr) := ⟨rfl, _, _, rfl, Nat.le_of_ble_eq_true rfl⟩
theorem rorAcc : Statement .rorAcc := ⟨rfl, _, _, rfl, Nat.le_of_ble_eq_true rfl⟩
theorem rorZp (z : Byte) : Statement (.rorZp z) := ⟨rfl, _, _, rfl, Nat.le_of_ble_eq_true rfl⟩
theorem rorZpx (z : Byte) : Statement (.rorZpx z) := ⟨rfl, _, _, rfl, Nat.le_of_ble_eq_true rfl⟩
theorem rorAbs (addr : Word) : Statement (.rorAbs addr) := ⟨rfl, _, _, rfl, Nat.le_of_ble_eq_true rfl⟩
theorem rorAbsx (addr : Word) : Statement (.rorAbsx addr) := ⟨rfl, _, _, rfl, Nat.le_of_ble_eq_true rfl⟩
theorem jmpAbs (addr : Word) : Statement (.jmpAbs addr) := ⟨rfl, _, _, rfl, Nat.le_of_ble_eq_true rfl⟩
theorem jmpInd (ptr : Word) : Statement (.jmpInd ptr) := ⟨rfl, _, _, rfl, Nat.le_of_ble_eq_true rfl⟩
theorem jsr (addr : Word) : Statement (.jsr addr) := ⟨rfl, _, _, rfl, Nat.le_of_ble_eq_true rfl⟩
theorem rts : Statement .rts := ⟨rfl, _, _, rfl, Nat.le_of_ble_eq_true rfl⟩
theorem bcc (rel : Byte) : Statement (.bcc rel) := ⟨rfl, _, _, rfl, Nat.le_of_ble_eq_true rfl⟩
theorem bcs (rel : Byte) : Statement (.bcs rel) := ⟨rfl, _, _, rfl, Nat.le_of_ble_eq_true rfl⟩
theorem beq (rel : Byte) : Statement (.beq rel) := ⟨rfl, _, _, rfl, Nat.le_of_ble_eq_true rfl⟩
theorem bne (rel : Byte) : Statement (.bne rel) := ⟨rfl, _, _, rfl, Nat.le_of_ble_eq_true rfl⟩
theorem bmi (rel : Byte) : Statement (.bmi rel) := ⟨rfl, _, _, rfl, Nat.le_of_ble_eq_true rfl⟩
theorem bpl (rel : Byte) : Statement (.bpl rel) := ⟨rfl, _, _, rfl, Nat.le_of_ble_eq_true rfl⟩
theorem bvc (rel : Byte) : Statement (.bvc rel) := ⟨rfl, _, _, rfl, Nat.le_of_ble_eq_true rfl⟩
theorem bvs (rel : Byte) : Statement (.bvs rel) := ⟨rfl, _, _, rfl, Nat.le_of_ble_eq_true rfl⟩
theorem pha : Statement .pha := ⟨rfl, _, _, rfl, Nat.le_of_ble_eq_true rfl⟩
theorem php : Statement .php := ⟨rfl, _, _, rfl, Nat.le_of_ble_eq_true rfl⟩
theorem pla : Statement .pla := ⟨rfl, _, _, rfl, Nat.le_of_ble_eq_true rfl⟩
theorem plp : Statement .plp := ⟨rfl, _, _, rfl, Nat.le_of_ble_eq_true rfl⟩
theorem clc : Statement .clc := ⟨rfl, _, _, rfl, Nat.le_of_ble_eq_true rfl⟩
theorem cld : Statement .cld := ⟨rfl, _, _, rfl, Nat.le_of_ble_eq_true rfl⟩
theorem cli : Statement .cli := ⟨rfl, _, _, rfl, Nat.le_of_ble_eq_true rfl⟩
theorem clv : Statement .clv := ⟨rfl, _, _, rfl, Nat.le_of_ble_eq_true rfl⟩
theorem sec : Statement .sec := ⟨rfl, _, _, rfl, Nat.le_of_ble_eq_true rfl⟩
theorem sed : Statement .sed := ⟨rfl, _, _, rfl, Nat.le_of_ble_eq_true rfl⟩
theorem sei : Statement .sei := ⟨rfl, _, _, rfl, Nat.le_of_ble_eq_true rfl⟩
theorem nop : Statement .nop := ⟨rfl, _, _, rfl, Nat.le_of_ble_eq_true rfl⟩
theorem brk : Statement .brk := ⟨rfl, _, _, rfl, Nat.le_of_ble_eq_true rfl⟩
theorem rti : Statement .rti := ⟨rfl, _, _, rfl, Nat.le_of_ble_eq_true rfl⟩

end Sys2Proof.Laws.EncodedLength
end

