-- ==== Sys2Proof/Tests/Slice0.lean ====
section
/-! SUPPORT. The model's own tests.  Expected results are the spec's: the opcode map of 30_encoding.md (R104), the
derived vectors of 95_test_vectors.md section 2 (each named after its row there), the reset rules of
70_reset_and_hazards.md.  The theorems named witness_<obligation> show concrete states and operands that meet that
statement's hypotheses. -/

namespace Sys2Proof.Tests

open Sys2Proof.Machine

set_option Elab.async false

/-! ### Helpers -/

/-- The spec's common start state (95_test_vectors.md section 0), without its filling of ROM with NOPs: reset
vector 0x8000, break vector 0x9000, 32768 bytes of program, 8192 of graphics. -/
def base : State := { State.reset with prg := [(0x7FFD, 0x80), (0x7FFF, 0x90)], pc := 0x8000 }

/-- Bytes placed at an address, `PC` at their first byte. -/
def code (addr : Word) (bytes : List Byte) (s : State) : State := placeBytes bytes addr (s.setPc addr)

/-- A result is a next state with a property. -/
def ends (r : Result) (p : State → Bool) : Bool :=
  match r with
  | .next t => p t
  | .fault _ => false
  | .refused _ => false

/-- A result is a given fault. -/
def faults (r : Result) (f : Fault) : Bool :=
  match r with
  | .next _ => false
  | .fault g => g == f
  | .refused _ => false

/-- An access answers with a property. -/
def answers {α : Type} (r : Except Fault α) (p : α → Bool) : Bool :=
  match r with
  | .ok x => p x
  | .error _ => false

/-- An access faults with a given fault. -/
def fails {α : Type} (r : Except Fault α) (f : Fault) : Bool :=
  match r with
  | .ok _ => false
  | .error g => g == f

/-- The byte a bus read answers is the given one. -/
def reads (a : Word) (v : Byte) (t : State) : Bool := answers (busRead a t) fun x => x.1 == v

/-- A sequence of bus writes. -/
def writes : List (Word × Byte) → State → Except Fault State
  | [], s => .ok s
  | (a, v) :: rest, s =>
    match busWrite a v s with
    | .ok t => writes rest t
    | .error f => .error f

/-- The decoder reads exactly this instruction from exactly these bytes. -/
def decodesTo (bs : List Byte) (i : Instr) : Bool :=
  match decode bs with
  | .ok (j, rest) => j == i && rest == []
  | .error _ => false

/-- Every pair of a list is bytes and the instruction they decode to. -/
def decodesAll (l : List (List Byte × Instr)) : Bool := l.all fun p => decodesTo p.1 p.2

theorem next_of_ends {r : Result} {p : State → Bool} (h : ends r p = true) : ∃ t, r = .next t ∧ p t = true := by
  cases r with
  | next t => exact ⟨t, rfl, h⟩
  | fault f => cases h
  | refused q => cases h

theorem fault_of_faults {r : Result} {f : Fault} (h : faults r f = true) : r = .fault f := by
  cases r with
  | next t => cases h
  | fault g => rw [show g = f from by simpa [faults] using h]
  | refused q => cases h

theorem ok_of_answers {α : Type} {r : Except Fault α} {p : α → Bool} (h : answers r p = true) :
    ∃ x, r = .ok x ∧ p x = true := by
  cases r with
  | ok x => exact ⟨x, rfl, h⟩
  | error f => cases h

theorem error_of_fails {α : Type} {r : Except Fault α} {f : Fault} (h : fails r f = true) : r = .error f := by
  cases r with
  | ok x => cases h
  | error g => rw [show g = f from by simpa [fails] using h]

/-! ### Well-formedness: an ill-formed term for each check -/

/-- An opcode outside the implemented set (R8 admits a smaller set) is refused. -/
theorem test_wellFormed_refuses_unimplemented : wellFormedIn (fun b => b != 0xEA) opLen .nop = false := by decide +kernel
/-- An opcode without a length entry is refused (R107). -/
theorem test_wellFormed_refuses_missing_length :
    wellFormedIn Config.implemented (fun _ => none) (.ldaImm 0) = false := by decide +kernel
/-- An opcode whose length entry is not its format's length is refused (R107). -/
theorem test_wellFormed_refuses_wrong_length :
    wellFormedIn Config.implemented (fun _ => some 2) (.ldaAbs 0) = false := by decide +kernel
theorem test_wellFormed_accepts : wellFormed (.ldaAbs 0) = true := by decide +kernel

/-! ### Decoding: every opcode byte of R104, operands 0x11 or 0x2211 (low byte first) -/

/-- Format IMP (R101, R104). -/
theorem test_decode_implied : (decodesAll [([0xAA], .tax), ([0xA8], .tay), ([0x8A], .txa),
      ([0x98], .tya), ([0xBA], .tsx), ([0x9A], .txs),
      ([0xE8], .inx), ([0xC8], .iny), ([0xCA], .dex),
      ([0x88], .dey), ([0x60], .rts), ([0x48], .pha)] &&
    decodesAll [([0x08], .php), ([0x68], .pla), ([0x28], .plp),
      ([0x18], .clc), ([0xD8], .cld), ([0x58], .cli),
      ([0xB8], .clv), ([0x38], .sec), ([0xF8], .sed),
      ([0x78], .sei), ([0xEA], .nop), ([0x00], .brk)] &&
    decodesAll [([0x40], .rti)]) = true := by decide +kernel
/-- Format ACC (R101, R104). -/
theorem test_decode_accumulator : (decodesAll [([0x0A], .aslAcc), ([0x4A], .lsrAcc), ([0x2A], .rolAcc),
      ([0x6A], .rorAcc)]) = true := by decide +kernel
/-- Format IMM (R101, R104). -/
theorem test_decode_immediate : (decodesAll [([0xA9, 0x11], .ldaImm 0x11), ([0xA2, 0x11], .ldxImm 0x11), ([0xA0, 0x11], .ldyImm 0x11),
      ([0x69, 0x11], .adcImm 0x11), ([0xE9, 0x11], .sbcImm 0x11), ([0x29, 0x11], .andImm 0x11),
      ([0x09, 0x11], .oraImm 0x11), ([0x49, 0x11], .eorImm 0x11), ([0xC9, 0x11], .cmpImm 0x11),
      ([0xE0, 0x11], .cpxImm 0x11), ([0xC0, 0x11], .cpyImm 0x11)]) = true := by decide +kernel
/-- Format ZP (R101, R104). -/
theorem test_decode_zeroPage : (decodesAll [([0xA5, 0x11], .ldaZp 0x11), ([0xA6, 0x11], .ldxZp 0x11), ([0xA4, 0x11], .ldyZp 0x11),
      ([0x85, 0x11], .staZp 0x11), ([0x86, 0x11], .stxZp 0x11), ([0x84, 0x11], .styZp 0x11),
      ([0x65, 0x11], .adcZp 0x11), ([0xE5, 0x11], .sbcZp 0x11), ([0x25, 0x11], .andZp 0x11),
      ([0x05, 0x11], .oraZp 0x11), ([0x45, 0x11], .eorZp 0x11), ([0x24, 0x11], .bitZp 0x11)] &&
    decodesAll [([0xC5, 0x11], .cmpZp 0x11), ([0xE4, 0x11], .cpxZp 0x11), ([0xC4, 0x11], .cpyZp 0x11),
      ([0xE6, 0x11], .incZp 0x11), ([0xC6, 0x11], .decZp 0x11), ([0x06, 0x11], .aslZp 0x11),
      ([0x46, 0x11], .lsrZp 0x11), ([0x26, 0x11], .rolZp 0x11), ([0x66, 0x11], .rorZp 0x11)]) = true := by decide +kernel
/-- Format ZPX (R101, R104). -/
theorem test_decode_zeroPageX : (decodesAll [([0xB5, 0x11], .ldaZpx 0x11), ([0xB4, 0x11], .ldyZpx 0x11), ([0x95, 0x11], .staZpx 0x11),
      ([0x94, 0x11], .styZpx 0x11), ([0x75, 0x11], .adcZpx 0x11), ([0xF5, 0x11], .sbcZpx 0x11),
      ([0x35, 0x11], .andZpx 0x11), ([0x15, 0x11], .oraZpx 0x11), ([0x55, 0x11], .eorZpx 0x11),
      ([0xD5, 0x11], .cmpZpx 0x11), ([0xF6, 0x11], .incZpx 0x11), ([0xD6, 0x11], .decZpx 0x11)] &&
    decodesAll [([0x16, 0x11], .aslZpx 0x11), ([0x56, 0x11], .lsrZpx 0x11), ([0x36, 0x11], .rolZpx 0x11),
      ([0x76, 0x11], .rorZpx 0x11)]) = true := by decide +kernel
/-- Format ZPY (R101, R104). -/
theorem test_decode_zeroPageY : (decodesAll [([0xB6, 0x11], .ldxZpy 0x11), ([0x96, 0x11], .stxZpy 0x11)]) = true := by decide +kernel
/-- Format ABS (R101, R104). -/
theorem test_decode_absolute : (decodesAll [([0xAD, 0x11, 0x22], .ldaAbs 0x2211), ([0xAE, 0x11, 0x22], .ldxAbs 0x2211), ([0xAC, 0x11, 0x22], .ldyAbs 0x2211),
      ([0x8D, 0x11, 0x22], .staAbs 0x2211), ([0x8E, 0x11, 0x22], .stxAbs 0x2211), ([0x8C, 0x11, 0x22], .styAbs 0x2211),
      ([0x6D, 0x11, 0x22], .adcAbs 0x2211), ([0xED, 0x11, 0x22], .sbcAbs 0x2211), ([0x2D, 0x11, 0x22], .andAbs 0x2211),
      ([0x0D, 0x11, 0x22], .oraAbs 0x2211), ([0x4D, 0x11, 0x22], .eorAbs 0x2211), ([0x2C, 0x11, 0x22], .bitAbs 0x2211)] &&
    decodesAll [([0xCD, 0x11, 0x22], .cmpAbs 0x2211), ([0xEC, 0x11, 0x22], .cpxAbs 0x2211), ([0xCC, 0x11, 0x22], .cpyAbs 0x2211),
      ([0xEE, 0x11, 0x22], .incAbs 0x2211), ([0xCE, 0x11, 0x22], .decAbs 0x2211), ([0x0E, 0x11, 0x22], .aslAbs 0x2211),
      ([0x4E, 0x11, 0x22], .lsrAbs 0x2211), ([0x2E, 0x11, 0x22], .rolAbs 0x2211), ([0x6E, 0x11, 0x22], .rorAbs 0x2211),
      ([0x4C, 0x11, 0x22], .jmpAbs 0x2211), ([0x20, 0x11, 0x22], .jsr 0x2211)]) = true := by decide +kernel
/-- Format ABSX (R101, R104). -/
theorem test_decode_absoluteX : (decodesAll [([0xBD, 0x11, 0x22], .ldaAbsx 0x2211), ([0xBC, 0x11, 0x22], .ldyAbsx 0x2211), ([0x9D, 0x11, 0x22], .staAbsx 0x2211),
      ([0x7D, 0x11, 0x22], .adcAbsx 0x2211), ([0xFD, 0x11, 0x22], .sbcAbsx 0x2211), ([0x3D, 0x11, 0x22], .andAbsx 0x2211),
      ([0x1D, 0x11, 0x22], .oraAbsx 0x2211), ([0x5D, 0x11, 0x22], .eorAbsx 0x2211), ([0xDD, 0x11, 0x22], .cmpAbsx 0x2211),
      ([0xFE, 0x11, 0x22], .incAbsx 0x2211), ([0xDE, 0x11, 0x22], .decAbsx 0x2211), ([0x1E, 0x11, 0x22], .aslAbsx 0x2211)] &&
    decodesAll [([0x5E, 0x11, 0x22], .lsrAbsx 0x2211), ([0x3E, 0x11, 0x22], .rolAbsx 0x2211), ([0x7E, 0x11, 0x22], .rorAbsx 0x2211)]) = true := by decide +kernel
/-- Format ABSY (R101, R104). -/
theorem test_decode_absoluteY : (decodesAll [([0xB9, 0x11, 0x22], .ldaAbsy 0x2211), ([0xBE, 0x11, 0x22], .ldxAbsy 0x2211), ([0x99, 0x11, 0x22], .staAbsy 0x2211),
      ([0x79, 0x11, 0x22], .adcAbsy 0x2211), ([0xF9, 0x11, 0x22], .sbcAbsy 0x2211), ([0x39, 0x11, 0x22], .andAbsy 0x2211),
      ([0x19, 0x11, 0x22], .oraAbsy 0x2211), ([0x59, 0x11, 0x22], .eorAbsy 0x2211), ([0xD9, 0x11, 0x22], .cmpAbsy 0x2211)]) = true := by decide +kernel
/-- Format IND (R101, R104). -/
theorem test_decode_indirect : (decodesAll [([0x6C, 0x11, 0x22], .jmpInd 0x2211)]) = true := by decide +kernel
/-- Format INDX (R101, R104). -/
theorem test_decode_indirectX : (decodesAll [([0xA1, 0x11], .ldaIndx 0x11), ([0x81, 0x11], .staIndx 0x11), ([0x61, 0x11], .adcIndx 0x11),
      ([0xE1, 0x11], .sbcIndx 0x11), ([0x21, 0x11], .andIndx 0x11), ([0x01, 0x11], .oraIndx 0x11),
      ([0x41, 0x11], .eorIndx 0x11), ([0xC1, 0x11], .cmpIndx 0x11)]) = true := by decide +kernel
/-- Format INDY (R101, R104). -/
theorem test_decode_indirectY : (decodesAll [([0xB1, 0x11], .ldaIndy 0x11), ([0x91, 0x11], .staIndy 0x11), ([0x71, 0x11], .adcIndy 0x11),
      ([0xF1, 0x11], .sbcIndy 0x11), ([0x31, 0x11], .andIndy 0x11), ([0x11, 0x11], .oraIndy 0x11),
      ([0x51, 0x11], .eorIndy 0x11), ([0xD1, 0x11], .cmpIndy 0x11)]) = true := by decide +kernel
/-- Format REL (R101, R104). -/
theorem test_decode_relative : (decodesAll [([0x90, 0x11], .bcc 0x11), ([0xB0, 0x11], .bcs 0x11), ([0xF0, 0x11], .beq 0x11),
      ([0xD0, 0x11], .bne 0x11), ([0x30, 0x11], .bmi 0x11), ([0x10, 0x11], .bpl 0x11),
      ([0x50, 0x11], .bvc 0x11), ([0x70, 0x11], .bvs 0x11)]) = true := by decide +kernel
/-- R108: unimplemented bytes are rejected by name. -/
theorem test_decode_rejects : decode [0x02, 0x11] = .error (.unimplemented 0x02) ∧
    decode [0xFF] = .error (.unimplemented 0xFF) ∧ decode [0xAD, 0x11] = .error (.truncated 0xAD) ∧
    decode [] = .error .empty := ⟨rfl, rfl, rfl, rfl⟩
/-- Bits numbered as the opcode table numbers them; the bits above nbits are 0. -/
theorem test_decodeTableWord : decodeTableWord 24 0x2211AD = some (.ldaAbs 0x2211) ∧
    decodeTableWord 8 0x2211AD = some (.ldaAbs 0) ∧ decodeTableWord 8 0x02 = none := by decide +kernel
/-- The word placed is the next step's instruction. -/
theorem test_withFetchWord : ends (step (State.reset.withFetchWord 16 0x11A9))
    (fun t => t.a == 0x11 && t.pc == 2) = true := by decide +kernel

/-! ### One step: 95_test_vectors.md sections 2.1 to 2.5 -/

theorem test_LDA_imm_zero : ends (step (code 0x8000 [0xA9, 0x00] { base with a := 0x55, p := 0x80 }))
    (fun t => t.a == 0x00 && t.x == 0x00 && t.y == 0x00 && t.sp == 0x00 && t.p == 0x02 && t.pc == 0x8002) =
      true := by decide +kernel
theorem test_LDA_zp_X_wrap : ends (step (code 0x8000 [0xB5, 0xF0] { base with x := 0x20, wram := [(0x0010,
      0x77), (0x0110, 0x99)] }))
    (fun t => t.a == 0x77 && t.p == 0x00 && t.pc == 0x8002) = true := by decide +kernel
theorem test_LDA_abs_X_page_cross : ends (step (code 0x8000 [0xBD, 0xFF, 0x02] { base with x := 0x02, wram :=
      [(0x0301, 0x42)] }))
    (fun t => t.a == 0x42 && t.p == 0x00 && t.pc == 0x8003) = true := by decide +kernel
theorem test_LDA_abs_Y_16_bit_wrap : ends (step (code 0x8000 [0xB9, 0xFF, 0xFF] { base with y := 0x11, wram
      := [(0x0010, 0x33)] }))
    (fun t => t.a == 0x33 && t.p == 0x00 && t.pc == 0x8003) = true := by decide +kernel
theorem test_LDA_zp_X_pointer_wrap : ends (step (code 0x8000 [0xA1, 0xFE] { base with x := 0x01, wram :=
      [(0x0000, 0x03), (0x0300, 0x5A)] }))
    (fun t => t.a == 0x5A && t.p == 0x00 && t.pc == 0x8002) = true := by decide +kernel
theorem test_LDA_zp_Y : ends (step (code 0x8000 [0xB1, 0x40] { base with y := 0x20, wram := [(0x0040, 0xF0),
      (0x0041, 0x02), (0x0310, 0xC3)] }))
    (fun t => t.a == 0xC3 && t.p == 0x80 && t.pc == 0x8002) = true := by decide +kernel
theorem test_LDA_zp_Y_pointer_wrap : ends (step (code 0x8000 [0xB1, 0xFF] { base with y := 0x01, wram :=
      [(0x0000, 0x02), (0x00FF, 0x10), (0x0100, 0x07), (0x0211, 0x99)] }))
    (fun t => t.a == 0x99 && t.p == 0x80 && t.pc == 0x8002) = true := by decide +kernel
theorem test_LDA_stub : ends (step (code 0x8000 [0xAD, 0x16, 0x40] { base with a := 0x12 }))
    (fun t => t.a == 0x00 && t.p == 0x02 && t.pc == 0x8003) = true := by decide +kernel
theorem test_LDA_unmapped : faults (step (code 0x8000 [0xAD, 0x00, 0x50] base))
    (.unmappedAddress 0x5000 .read) = true := by decide +kernel
theorem test_LDX_zp_Y : ends (step (code 0x8000 [0xB6, 0x10] { base with y := 0xF5, wram := [(0x0005, 0x81)] }))
    (fun t => t.x == 0x81 && t.p == 0x80 && t.pc == 0x8002) = true := by decide +kernel
theorem test_LDY_abs_X : ends (step (code 0x8000 [0xBC, 0x00, 0x02] { base with x := 0x03 }))
    (fun t => t.y == 0x00 && t.p == 0x02 && t.pc == 0x8003) = true := by decide +kernel
theorem test_STA_abs : ends (step (code 0x8000 [0x8D, 0x00, 0x02] { base with a := 0x5A, p := 0x83 }))
    (fun t => t.p == 0x83 && t.pc == 0x8003 && reads 0x0200 0x5A t && reads 0x0A00 0x5A t) = true := by
      decide +kernel
theorem test_STA_ROM : faults (step (code 0x8000 [0x8D, 0x00, 0x80] { base with a := 0x01 }))
    (.readOnlyViolation .bus 0x8000) = true := by decide +kernel
theorem test_STA_zp_Y : ends (step (code 0x8000 [0x91, 0x20] { base with a := 0xEE, y := 0x04, wram :=
      [(0x0020, 0xFC), (0x0021, 0x06)] }))
    (fun t => t.pc == 0x8002 && reads 0x0700 0xEE t) = true := by decide +kernel
theorem test_STX_zp_Y : ends (step (code 0x8000 [0x96, 0xFF] { base with x := 0x07, y := 0x02 }))
    (fun t => t.pc == 0x8002 && reads 0x0001 0x07 t) = true := by decide +kernel
theorem test_STY_zp_X : ends (step (code 0x8000 [0x94, 0x10] { base with y := 0x09, x := 0x01 }))
    (fun t => t.pc == 0x8002 && reads 0x0011 0x09 t) = true := by decide +kernel
theorem test_TAX : ends (step (code 0x8000 [0xAA] { base with a := 0x00, x := 0x44 }))
    (fun t => t.x == 0x00 && t.p == 0x02 && t.pc == 0x8001) = true := by decide +kernel
theorem test_TAY : ends (step (code 0x8000 [0xA8] { base with a := 0x90 }))
    (fun t => t.y == 0x90 && t.p == 0x80 && t.pc == 0x8001) = true := by decide +kernel
theorem test_TXA : ends (step (code 0x8000 [0x8A] { base with x := 0x7F, p := 0x82 }))
    (fun t => t.a == 0x7F && t.p == 0x00 && t.pc == 0x8001) = true := by decide +kernel
theorem test_TYA : ends (step (code 0x8000 [0x98] { base with y := 0x00, a := 0x01 }))
    (fun t => t.a == 0x00 && t.p == 0x02 && t.pc == 0x8001) = true := by decide +kernel
theorem test_TSX_right_after_load : ends (step (code 0x8000 [0xBA] { base with x := 0x33 }))
    (fun t => t.x == 0x00 && t.p == 0x02 && t.pc == 0x8001) = true := by decide +kernel
theorem test_TSX : ends (step (code 0x8000 [0xBA] { base with sp := 0xFD }))
    (fun t => t.x == 0xFD && t.p == 0x80 && t.pc == 0x8001) = true := by decide +kernel
theorem test_TXS : ends (step (code 0x8000 [0x9A] { base with x := 0x00, sp := 0x55, p := 0x80 }))
    (fun t => t.sp == 0x00 && t.p == 0x80 && t.pc == 0x8001) = true := by decide +kernel
theorem test_execute_from_work_memory : ends (step (code 0x0200 [0xA9, 0x07] base))
    (fun t => t.a == 0x07 && t.p == 0x00 && t.pc == 0x0202) = true := by decide +kernel
theorem test_ADC_80_plus_80 : ends (step (code 0x8000 [0x69, 0x80] { base with a := 0x80, p := 0x00 }))
    (fun t => t.a == 0x00 && t.p == 0x43) = true := by decide +kernel
theorem test_ADC_FF_plus_FF_plus_1 : ends (step (code 0x8000 [0x69, 0xFF] { base with a := 0xFF, p := 0x01 }))
    (fun t => t.a == 0xFF && t.p == 0x81) = true := by decide +kernel
theorem test_SBC_80_minus_01 : ends (step (code 0x8000 [0xE9, 0x01] { base with a := 0x80, p := 0x01 }))
    (fun t => t.a == 0x7F && t.p == 0x41) = true := by decide +kernel
theorem test_SBC_equal_with_borrow_in : ends (step (code 0x8000 [0xE9, 0x50] { base with a := 0x50, p := 0x00
      }))
    (fun t => t.a == 0xFF && t.p == 0x80) = true := by decide +kernel
theorem test_AND : ends (step (code 0x8000 [0x29, 0x0F] { base with a := 0xF0, p := 0x41 }))
    (fun t => t.a == 0x00 && t.p == 0x43) = true := by decide +kernel
theorem test_ORA : ends (step (code 0x8000 [0x09, 0x80] { base with a := 0x01 }))
    (fun t => t.a == 0x81 && t.p == 0x80) = true := by decide +kernel
theorem test_EOR : ends (step (code 0x8000 [0x49, 0xFF] { base with a := 0xFF, p := 0x80 }))
    (fun t => t.a == 0x00 && t.p == 0x02) = true := by decide +kernel
theorem test_BIT_zp : ends (step (code 0x8000 [0x24, 0x10] { base with a := 0x01, wram := [(0x0010, 0xC0)] }))
    (fun t => t.a == 0x01 && t.p == 0xC2) = true := by decide +kernel
theorem test_BIT_zp_clears : ends (step (code 0x8000 [0x24, 0x10] { base with a := 0xFF, p := 0xC2, wram :=
      [(0x0010, 0x3F)] }))
    (fun t => t.a == 0xFF && t.p == 0x00) = true := by decide +kernel
theorem test_CMP_equal : ends (step (code 0x8000 [0xC9, 0x40] { base with a := 0x40, p := 0x40 }))
    (fun t => t.p == 0x43) = true := by decide +kernel
theorem test_CMP_01_vs_FF : ends (step (code 0x8000 [0xC9, 0xFF] { base with a := 0x01, p := 0x40 }))
    (fun t => t.p == 0x40) = true := by decide +kernel
theorem test_CPX : ends (step (code 0x8000 [0xE0, 0x20] { base with x := 0x10 }))
    (fun t => t.p == 0x80) = true := by decide +kernel
theorem test_CPY : ends (step (code 0x8000 [0xC0, 0x03] { base with y := 0x05 }))
    (fun t => t.p == 0x01) = true := by decide +kernel
theorem test_INC_wraps : ends (step (code 0x8000 [0xE6, 0x10] { base with wram := [(0x0010, 0xFF)] }))
    (fun t => t.p == 0x02 && reads 0x0010 0x00 t) = true := by decide +kernel
theorem test_INC_to_negative : ends (step (code 0x8000 [0xE6, 0x10] { base with p := 0x01, wram := [(0x0010,
      0x7F)] }))
    (fun t => t.p == 0x81 && reads 0x0010 0x80 t) = true := by decide +kernel
theorem test_INC_ROM : faults (step (code 0x8000 [0xEE, 0x00, 0x80] base))
    (.readOnlyViolation .bus 0x8000) = true := by decide +kernel
theorem test_DEC_wraps : ends (step (code 0x8000 [0xC6, 0x10] base))
    (fun t => t.p == 0x80 && reads 0x0010 0xFF t) = true := by decide +kernel
theorem test_DEC_abs_X_to_zero : ends (step (code 0x8000 [0xDE, 0x00, 0x02] { base with x := 0x01, wram :=
      [(0x0201, 0x01)] }))
    (fun t => t.p == 0x02 && t.pc == 0x8003 && reads 0x0201 0x00 t) = true := by decide +kernel
theorem test_INX : ends (step (code 0x8000 [0xE8] { base with x := 0xFF }))
    (fun t => t.x == 0x00 && t.p == 0x02) = true := by decide +kernel
theorem test_INY : ends (step (code 0x8000 [0xC8] { base with y := 0x7F }))
    (fun t => t.y == 0x80 && t.p == 0x80) = true := by decide +kernel
theorem test_DEX : ends (step (code 0x8000 [0xCA] { base with x := 0x00 }))
    (fun t => t.x == 0xFF && t.p == 0x80) = true := by decide +kernel
theorem test_DEY : ends (step (code 0x8000 [0x88] { base with y := 0x01 }))
    (fun t => t.y == 0x00 && t.p == 0x02) = true := by decide +kernel
theorem test_ASL_A : ends (step (code 0x8000 [0x0A] { base with a := 0x81 }))
    (fun t => t.a == 0x02 && t.p == 0x01 && t.pc == 0x8001) = true := by decide +kernel
theorem test_ASL_A_to_zero : ends (step (code 0x8000 [0x0A] { base with a := 0x80 }))
    (fun t => t.a == 0x00 && t.p == 0x03) = true := by decide +kernel
theorem test_ASL_zp : ends (step (code 0x8000 [0x06, 0x10] { base with wram := [(0x0010, 0x40)] }))
    (fun t => t.p == 0x80 && t.pc == 0x8002 && reads 0x0010 0x80 t) = true := by decide +kernel
theorem test_LSR_A_to_zero : ends (step (code 0x8000 [0x4A] { base with a := 0x01, p := 0x80 }))
    (fun t => t.a == 0x00 && t.p == 0x03) = true := by decide +kernel
theorem test_LSR_A : ends (step (code 0x8000 [0x4A] { base with a := 0xFF }))
    (fun t => t.a == 0x7F && t.p == 0x01) = true := by decide +kernel
theorem test_LSR_abs : ends (step (code 0x8000 [0x4E, 0x00, 0x02] { base with wram := [(0x0200, 0x02)] }))
    (fun t => t.p == 0x00 && t.pc == 0x8003 && reads 0x0200 0x01 t) = true := by decide +kernel
theorem test_ROL_A_carry_in : ends (step (code 0x8000 [0x2A] { base with a := 0x40, p := 0x01 }))
    (fun t => t.a == 0x81 && t.p == 0x80) = true := by decide +kernel
theorem test_ROL_A_carry_out : ends (step (code 0x8000 [0x2A] { base with a := 0x80, p := 0x00 }))
    (fun t => t.a == 0x00 && t.p == 0x03) = true := by decide +kernel
theorem test_ROL_zp : ends (step (code 0x8000 [0x26, 0x10] { base with p := 0x01 }))
    (fun t => t.p == 0x00 && reads 0x0010 0x01 t) = true := by decide +kernel
theorem test_ROR_A : ends (step (code 0x8000 [0x6A] { base with a := 0x03, p := 0x01 }))
    (fun t => t.a == 0x81 && t.p == 0x81) = true := by decide +kernel
theorem test_ROR_A_to_zero : ends (step (code 0x8000 [0x6A] { base with a := 0x01, p := 0x00 }))
    (fun t => t.a == 0x00 && t.p == 0x03) = true := by decide +kernel
theorem test_ROR_zp_X : ends (step (code 0x8000 [0x76, 0x0F] { base with x := 0x01, p := 0x01 }))
    (fun t => t.p == 0x80 && reads 0x0010 0x80 t) = true := by decide +kernel
theorem test_ASL_ROM : faults (step (code 0x8000 [0x0E, 0x00, 0x80] base))
    (.readOnlyViolation .bus 0x8000) = true := by decide +kernel
theorem test_JMP_abs : ends (step (code 0x8000 [0x4C, 0x00, 0x90] base))
    (fun t => t.pc == 0x9000) = true := by decide +kernel
theorem test_JMP_abs_to_pc0 : ends (step (code 0x8000 [0x4C, 0x01, 0x80] base))
    (fun t => t.pc == 0x8003) = true := by decide +kernel
theorem test_JMP_ind_wrap : ends (step (code 0x8000 [0x6C, 0xFF, 0x02] { base with wram := [(0x0200, 0x12),
      (0x02FF, 0x34), (0x0300, 0x56)] }))
    (fun t => t.pc == 0x1234) = true := by decide +kernel
theorem test_JMP_ind_no_wrap : ends (step (code 0x8000 [0x6C, 0xFE, 0x02] { base with wram := [(0x02FE,
      0x34), (0x02FF, 0x12)] }))
    (fun t => t.pc == 0x1234) = true := by decide +kernel
theorem test_JSR_SP_wrap : ends (step (code 0x8000 [0x20, 0x00, 0x90] { base with sp := 0x00 }))
    (fun t => t.sp == 0xFE && t.pc == 0x9000 && t.byte .stack 0x00 == 0x80 && t.byte .stack 0xFF == 0x02) =
      true := by decide +kernel
theorem test_JSR_to_pc0 : ends (step (code 0x8000 [0x20, 0x01, 0x80] { base with sp := 0xFF }))
    (fun t => t.sp == 0xFD && t.pc == 0x8003 && t.byte .stack 0xFF == 0x80 && t.byte .stack 0xFE == 0x02) =
      true := by decide +kernel
theorem test_RTS : ends (step (code 0x8000 [0x60] { base with sp := 0xFD, stack := [(0xFE, 0x02), (0xFF,
      0x80)] }))
    (fun t => t.sp == 0xFF && t.pc == 0x8003) = true := by decide +kernel
theorem test_RTS_wrap : ends (step (code 0x8000 [0x60] { base with sp := 0xFF, stack := [(0x00, 0xFF), (0x01,
      0xFF)] }))
    (fun t => t.sp == 0x01 && t.pc == 0x0000) = true := by decide +kernel
theorem test_BCC_taken : ends (step (code 0x8000 [0x90, 0x04] { base with p := 0x00 }))
    (fun t => t.pc == 0x8006) = true := by decide +kernel
theorem test_BCC_not_taken : ends (step (code 0x8000 [0x90, 0x04] { base with p := 0x01 }))
    (fun t => t.pc == 0x8002) = true := by decide +kernel
theorem test_BCS_backward : ends (step (code 0x8010 [0xB0, 0xFC] { base with p := 0x01 }))
    (fun t => t.pc == 0x800E) = true := by decide +kernel
theorem test_BEQ : ends (step (code 0x8000 [0xF0, 0x02] { base with p := 0x02 }))
    (fun t => t.pc == 0x8004) = true := by decide +kernel
theorem test_BNE_backward : ends (step (code 0x8005 [0xD0, 0xFB] { base with p := 0x00 }))
    (fun t => t.pc == 0x8002) = true := by decide +kernel
theorem test_BMI_plus127 : ends (step (code 0x8000 [0x30, 0x7F] { base with p := 0x80 }))
    (fun t => t.pc == 0x8081) = true := by decide +kernel
theorem test_BPL_minus128 : ends (step (code 0x8080 [0x10, 0x80] { base with p := 0x00 }))
    (fun t => t.pc == 0x8002) = true := by decide +kernel
theorem test_BVC_offset_0 : ends (step (code 0x8000 [0x50, 0x00] { base with p := 0x00 }))
    (fun t => t.pc == 0x8002) = true := by decide +kernel
theorem test_BVS_not_taken : ends (step (code 0x8000 [0x70, 0x10] { base with p := 0x00 }))
    (fun t => t.pc == 0x8002) = true := by decide +kernel
theorem test_BVS_taken : ends (step (code 0x8000 [0x70, 0x10] { base with p := 0x40 }))
    (fun t => t.pc == 0x8012) = true := by decide +kernel
theorem test_BNE_rel_FF_taken : ends (step (code 0x8000 [0xD0, 0xFF] { base with p := 0x00 }))
    (fun t => t.pc == 0x8002) = true := by decide +kernel
theorem test_PHA_at_SP_0 : ends (step (code 0x8000 [0x48] { base with a := 0x42, sp := 0x00 }))
    (fun t => t.sp == 0xFF && t.pc == 0x8001 && t.byte .stack 0x00 == 0x42) = true := by decide +kernel
theorem test_PHP : ends (step (code 0x8000 [0x08] { base with p := 0x81, sp := 0xFF }))
    (fun t => t.sp == 0xFE && t.p == 0x81 && t.byte .stack 0xFF == 0x81) = true := by decide +kernel
theorem test_PLA : ends (step (code 0x8000 [0x68] { base with a := 0x00, sp := 0xFF, p := 0x02, stack :=
      [(0x00, 0x42)] }))
    (fun t => t.a == 0x42 && t.sp == 0x00 && t.p == 0x00) = true := by decide +kernel
theorem test_PLP : ends (step (code 0x8000 [0x28] { base with sp := 0x7F, p := 0x00, stack := [(0x80, 0xFF)] }))
    (fun t => t.sp == 0x80 && t.p == 0xFF) = true := by decide +kernel
theorem test_CLC : ends (step (code 0x8000 [0x18] { base with p := 0xFF }))
    (fun t => t.p == 0xFE) = true := by decide +kernel
theorem test_CLD : ends (step (code 0x8000 [0xD8] { base with p := 0xFF }))
    (fun t => t.p == 0xF7) = true := by decide +kernel
theorem test_CLI : ends (step (code 0x8000 [0x58] { base with p := 0xFF }))
    (fun t => t.p == 0xFB) = true := by decide +kernel
theorem test_CLV : ends (step (code 0x8000 [0xB8] { base with p := 0xFF }))
    (fun t => t.p == 0xBF) = true := by decide +kernel
theorem test_SEC : ends (step (code 0x8000 [0x38] { base with p := 0x00 }))
    (fun t => t.p == 0x01) = true := by decide +kernel
theorem test_SED : ends (step (code 0x8000 [0xF8] { base with p := 0x00 }))
    (fun t => t.p == 0x08) = true := by decide +kernel
theorem test_SEI : ends (step (code 0x8000 [0x78] { base with p := 0x00 }))
    (fun t => t.p == 0x04) = true := by decide +kernel
theorem test_NOP : ends (step (code 0x8000 [0xEA] { base with p := 0xA5 }))
    (fun t => t.p == 0xA5 && t.pc == 0x8001) = true := by decide +kernel
theorem test_BRK : ends (step (code 0x8000 [0x00] { base with sp := 0xFF, p := 0x01 }))
    (fun t => t.sp == 0xFC && t.p == 0x11 && t.pc == 0x9000 && t.byte .stack 0xFF == 0x80 && t.byte .stack
      0xFE == 0x02 && t.byte .stack 0xFD == 0x01) = true := by decide +kernel
theorem test_RTI : ends (step (code 0x9000 [0x40] { base with sp := 0xFC, p := 0x11, stack := [(0xFD, 0x01),
      (0xFE, 0x02), (0xFF, 0x80)] }))
    (fun t => t.sp == 0xFF && t.p == 0x01 && t.pc == 0x8002) = true := by decide +kernel
theorem test_unimplemented_02 : faults (step (code 0x8000 [0x02] base))
    (.unimplementedOpcode 0x02 0x8000) = true := by decide +kernel
theorem test_unimplemented_FF : faults (step (code 0x8123 [0xFF] base))
    (.unimplementedOpcode 0xFF 0x8123) = true := by decide +kernel

/-! ### The bus: 95_test_vectors.md section 2.6 -/

theorem test_mirror_top : reads 0x1FFF 0x5C { base with wram := [(0x7FF, 0x5C)] } = true := by decide +kernel
theorem test_first_alias : answers (busWrite 0x0800 0x11 base) (fun t => t.wram == [(0, 0x11)]) = true := by decide +kernel
theorem test_window_alias : answers (busWrite 0x3FF8 0x80 base) (fun t => t == { base with ctrl := 0x80 }) = true := by
  decide +kernel
theorem test_window_alias_read : answers (busRead 0x3FFA { base with w := true })
    (fun x => x.1 == 0x00 && x.2 == base) = true := by decide +kernel
theorem test_stub : (reads 0x4018 0x00 base && answers (busRead 0x4014 base) (fun x => x.1 == 0 && x.2 == base) &&
    answers (busWrite 0x4015 0xFF base) (fun t => t == base)) = true := by decide +kernel
theorem test_unmapped_edges : (fails (busRead 0x4019 base) (.unmappedAddress 0x4019 .read) &&
    fails (busWrite 0x5FFF 0x00 base) (.unmappedAddress 0x5FFF .write)) = true := by decide +kernel
theorem test_cartridge_ram : (answers (busWrite 0x6000 0x9A base)
      (fun t => t.byte .cram 0 == 0x9A && reads 0x6000 0x9A t) &&
    answers (busWrite 0x7FFF 0x01 base) (fun t => t.byte .cram 0x1FFF == 0x01)) = true := by decide +kernel
theorem test_rom_read : (reads 0xC000 0x77 { base with prg := [(0x4000, 0x77)] } &&
    reads 0xC000 0x66 { base with prg := [(0, 0x66)], prgSize := .kib16 } &&
    reads 0x8000 0x66 { base with prg := [(0, 0x66)], prgSize := .kib16 }) = true := by decide +kernel
theorem test_rom_write : fails (busWrite 0xFFFF 0x00 base) (.readOnlyViolation .bus 0xFFFF) = true := by decide +kernel
theorem test_reset_vector_16k : answers
    (memRead16 0xFFFC { base with prg := [(0x3FFC, 0x34), (0x3FFD, 0x12)], prgSize := .kib16 })
    (fun x => x.1 == 0x1234) = true := by decide +kernel
theorem test_read16_wraps : (answers (memRead16 0xFFFF { base with wram := [(0, 0x12)] }) (fun x => x.1 == 0x1290) &&
    answers (memRead16 0x07FF { base with wram := [(0, 0x12), (0x7FF, 0x34)] }) (fun x => x.1 == 0x1234)) = true := by
  decide +kernel

/-! ### The peripheral: 95_test_vectors.md section 2.7 -/

theorem test_control_mask : answers (writes [(0x2000, 0x90), (0x2001, 0x1E)] base)
    (fun t => t == { base with ctrl := 0x90, mask := 0x1E }) = true := by decide +kernel
theorem test_address_pair : answers (writes [(0x2006, 0x21), (0x2006, 0x08)] base)
    (fun t => t == { base with vaddr := 0x2108 }) = true := by decide +kernel
theorem test_first_write_keeps_low_byte : answers (writes [(0x2006, 0x3F)] { base with vaddr := 0x23C0 })
    (fun t => t == { base with vaddr := 0x3FC0, w := true }) = true := by decide +kernel
theorem test_scroll_pair : answers (writes [(0x2005, 0x10), (0x2005, 0x20)] base)
    (fun t => t == { base with scrollX := 0x10, scrollY := 0x20 }) = true := by decide +kernel
theorem test_toggle_shared : answers (writes [(0x2005, 0x10), (0x2006, 0x34)] base)
    (fun t => t == { base with scrollX := 0x10, vaddr := 0x0034 }) = true := by decide +kernel
theorem test_toggle_reset : answers (andThen (busRead 0x2002 { base with vaddr := 0x3F00, w := true })
      (fun _ s => writes [(0x2006, 0x20), (0x2006, 0x10)] s))
    (fun t => t == { base with vaddr := 0x2010 }) = true := by decide +kernel
theorem test_status_write : fails (busWrite 0x2002 0x00 base) (.readOnlyViolation .peripheral 2) = true := by
  decide +kernel
theorem test_write_only_reads : ([0, 1, 3, 5, 6] : List Nat).all
    (fun i => fails (busRead (BitVec.ofNat 16 (0x2000 + i)) base) (.unsupportedRegisterAccess i .read)) = true := by
  decide +kernel
theorem test_oam_write_wraps : answers (busWrite 0x2004 0x12 { base with oamAddr := 0xFF })
    (fun t => t == { base with oam := [(0xFF, 0x12)] }) = true := by decide +kernel
theorem test_oam_read : answers (busRead 0x2004 { base with oam := [(5, 0x77)], oamAddr := 5 })
    (fun x => x.1 == 0x77 && x.2.oamAddr == 5) = true := by decide +kernel
theorem test_video_memory_mirror : answers (busWrite 0x2007 0x7E { base with vaddr := 0x2C05 })
    (fun t => t == { base with vaddr := 0x2C05, vram := [(0x405, 0x7E)] } &&
      reads 0x2007 0x7E { t with vaddr := 0x2405 }) = true := by decide +kernel
theorem test_palette : answers (busWrite 0x2007 0x2A { base with vaddr := 0x3F1F })
    (fun t => t.pal == [(31, 0x2A)] && reads 0x2007 0x2A { t with vaddr := 0x3FFF }) = true := by decide +kernel
theorem test_graphics_memory : (reads 0x2007 0x3C { base with vaddr := 0x1000, chr := [(0x1000, 0x3C)] } &&
    fails (busWrite 0x2007 0x00 { base with vaddr := 0x1000 }) (.readOnlyViolation .video 0x1000) &&
    fails (busRead 0x2007 { base with chrSize := .none }) (.unmappedVideoAddress 0x0000 .read)) = true := by
  decide +kernel
theorem test_video_holes : (fails (busRead 0x2007 { base with vaddr := 0x3000 }) (.unmappedVideoAddress 0x3000 .read) &&
    fails (busWrite 0x2007 0x00 { base with vaddr := 0x4000 }) (.unmappedVideoAddress 0x4000 .write)) = true := by
  decide +kernel
theorem test_bulk_copy : answers (busWrite 0x4014 0x0A { base with oamAddr := 0x10, wram := [(0x200, 0xAB), (0x2FF, 0xCD)] })
    (fun t => t.oam == [(0, 0xAB), (0xFF, 0xCD)] && t.oamAddr == 0x10) = true := by decide +kernel
theorem test_bulk_copy_from_rom : answers (busWrite 0x4014 0xFF base)
    (fun t => t.oam == [(0xFD, 0x80), (0xFF, 0x90)]) = true := by decide +kernel
theorem test_bulk_copy_faults : (fails (busWrite 0x4014 0x20 base) (.unsupportedRegisterAccess 0 .read) &&
    fails (busWrite 0x4014 0x40 base) (.unmappedAddress 0x4019 .read)) = true := by decide +kernel

/-! ### Load, reset, faults: 95_test_vectors.md section 2.8 and R291 to R298 -/

/-- A cartridge file's header and nothing more. -/
def header (b4 b5 b6 b7 : Byte) : List Byte :=
  [0x4E, 0x45, 0x53, 0x1A, b4, b5, b6, b7] ++ List.replicate 8 0

/-- Power-on contents of zero. -/
def zeros : InitMem := ⟨[], [], [], [], [], []⟩
theorem test_mapper_refused : loadFile (header 2 1 0x10 0) zeros [] = .fault (.unsupportedMapper 1) ∧
    loadFile (header 2 1 0 0x40) zeros [] = .fault (.unsupportedMapper 0x40) := ⟨rfl, rfl⟩
theorem test_magic_first : loadFile [0x4E, 0x45, 0x53, 0x00, 2, 1, 0x10, 0] zeros [] = .fault .badMagic := rfl
theorem test_header_sizes : loadFile (header 0 0 0 0) zeros [] = .refused (.cartridgeSize 0 0) ∧
    loadFile (header 2 1 0 0) zeros [] = .refused .cartridgeTruncated := ⟨rfl, rfl⟩
/-- R294: three program bytes are no admitted length. -/
theorem test_load_measures : load ⟨[1, 2, 3], []⟩ zeros [] = .refused (.cartridgeSize 3 0) := rfl
/-- R291, R55: 16384 program bytes are `PRG_LEN` 16384, so the reset vector lies at their end. -/
theorem test_load_short_cartridge : ∃ t, load ⟨List.replicate 16384 0x90, []⟩ zeros [] = .next t ∧
    t.prgSize = .kib16 ∧ t.chrSize = .none ∧ t.pc = 0x9090 := by
  refine ⟨_, (load_of_lengths (prgSize := .kib16) (chrSize := .none) zeros [] List.length_replicate rfl).trans
    (seedRegisters_eq _), rfl, rfl, ?_⟩
  have read : ∀ k, k < 16384 → Memory.read (Memory.ofBytes 0 (List.replicate 16384 (0x90 : Byte))) k = 0x90 := by
    intro k hk
    rw [Memory.read_ofBytes, if_pos (Nat.zero_le k)]
    simp only [List.getD_eq_getElem?_getD, Nat.sub_zero, List.getElem?_replicate, if_pos hk, Option.getD_some]
  apply BitVec.eq_of_toNat_eq
  rw [State.setPc_pc, resetTarget_toNat]
  show wordOf (Memory.read (Memory.ofBytes 0 _) 0x3FFD) (Memory.read (Memory.ofBytes 0 _) 0x3FFC) = _
  rw [read _ (by decide), read _ (by decide)]
  rfl
/-- R293: after a load error the machine that ran before takes no step. -/
theorem test_failed_load_stops : (hostMove base (.loadFile [0x4E, 0x45, 0x53, 0x00] zeros []) base).halted =
      .faulted .badMagic ∧
    step (hostMove base (.loadFile [0x4E, 0x45, 0x53, 0x00] zeros []) base) = .fault .badMagic := ⟨rfl, rfl⟩
/-- A machine that ran into a fault. -/
def stopped : State := { base with wram := [(0x10, 0x01)], oamAddr := 1, vaddr := 0x23C0, halted := .faulted .badMagic }
theorem test_host_reset : ends (hostReset { stopped with a := 1, x := 2, y := 3, sp := 4, p := 5, pc := 6 })
    (fun t => t == { stopped with halted := .running }) = true := by decide +kernel
theorem test_status_is_drawn_before_a_step : ends
    (step (code 0x8000 [0xAD, 0x02, 0x20] { base with statusIn := [0x80, 0x01], w := true }))
    (fun t => t.a == 0x80 && t.status == 0x80 && t.w == false && t.statusIn == [0x01]) = true := by decide +kernel
theorem test_faulted_machine_takes_no_step :
    step { base with halted := .faulted (.unmappedAddress 0x5000 .read) } = .fault (.unmappedAddress 0x5000 .read) := rfl
/-- 60_exceptions.md R265: a read-modify-write of a register-window address faults at its read. -/
theorem test_rmw_of_window : faults (step (code 0x8000 [0xEE, 0x00, 0x20] base)) (.unsupportedRegisterAccess 0 .read) = true := by
  decide +kernel
/-- 20_memory.md: a read-modify-write of the OAM data port reads, then writes and advances the index. -/
theorem test_inc_of_oam_port : ends (step (code 0x8000 [0xEE, 0x04, 0x20] { base with oam := [(7, 0x7F)], oamAddr := 7 }))
    (fun t => t.oam == [(7, 0x80)] && t.oamAddr == 8 && t.p == 0x80) = true := by decide +kernel

/-! ### Memory's canonical form -/

theorem test_memory_write : Memory.write [(3, 1), (9, 2)] 5 7 = [(3, 1), (5, 7), (9, 2)] ∧
    Memory.write [(3, 1), (9, 2)] 9 0 = [(3, 1)] ∧ Memory.write [(3, 1)] 3 4 = [(3, 4)] := by decide +kernel
theorem test_memory_wf : Memory.wf 8 [(3, 1), (7, 2)] = true ∧ Memory.wf 8 [(3, 1), (8, 2)] = false ∧
    Memory.wf 8 [(3, 0)] = false ∧ Memory.wf 8 [(3, 1), (3, 2)] = false := by decide +kernel

/-! ### Witnesses: the hypotheses of each statement, met together -/

theorem eq_ok {α : Type} [DecidableEq α] {r : Except Fault α} {x : α} (h : answers r (fun y => y == x) = true) :
    r = .ok x := by
  obtain ⟨y, hy, e⟩ := ok_of_answers h
  rw [hy, show y = x from by simpa using e]

theorem unmapped_read : busRead 0x4019 base = .error (.unmappedAddress 0x4019 .read) := error_of_fails (by decide +kernel)
theorem rom_read : busRead 0xFFFF base = .ok (0x90, base) := eq_ok (by decide +kernel)
theorem rom_write : busWrite 0xFFFF 0 base = .error (.readOnlyViolation .bus 0xFFFF) := error_of_fails (by decide +kernel)
/-- A memory operand that can be read, with the toggle to clear. -/
theorem readable_operand : ∃ m s1, Source.read (.mem (.abs 0x2002)) { base with w := true } = .ok (m, s1) ∧ s1.w = false :=
  ⟨0, base, eq_ok (by decide +kernel), rfl⟩
/-- A memory operand that cannot be read. -/
theorem unreadable_operand : Source.read (.mem (.abs 0x4019)) base = .error (.unmappedAddress 0x4019 .read) :=
  error_of_fails (by decide +kernel)

theorem witness_DecodeOfEncodeGivesInstruction : wellFormed (.jmpInd 0xFFFF) = true := by decide +kernel
theorem witness_DecodedBytesAreItsEncoding : decode [0xFE, 0xFF, 0xFF, 0x02] = .ok (.incAbsx 0xFFFF, [0x02]) := rfl
theorem witness_StepKeepsStoresCanonical : ∃ t,
    (code 0x8000 [0x8D, 0xFF, 0x07] { base with a := 1 }).wf = true ∧
    step (code 0x8000 [0x8D, 0xFF, 0x07] { base with a := 1 }) = .next t := by
  obtain ⟨t, h, _⟩ := next_of_ends (p := fun t => t.wram == [(0x7FF, 1)])
    (r := step (code 0x8000 [0x8D, 0xFF, 0x07] { base with a := 1 })) (by decide +kernel)
  exact ⟨t, by decide +kernel, h⟩
theorem witness_CartridgeIsImmutable : (∃ t, step (code 0x8000 [0xEA] base) = .next t) ∧
    ∃ t, hostReset base = .next t := by
  obtain ⟨t, h, _⟩ := next_of_ends (p := fun _ => true) (r := step (code 0x8000 [0xEA] base)) (by decide +kernel)
  exact ⟨⟨t, h⟩, _, rfl⟩
theorem witness_FaultStopsUntilReset : (∃ t, step (code 0x8000 [0xEA] base) = .next t) ∧
    step (code 0x8000 [0xAD, 0x19, 0x40] base) = .fault (.unmappedAddress 0x4019 .read) ∧
    loadFile (header 2 1 0x10 0) zeros [] = .fault (.unsupportedMapper 1) ∧ stopped.halted = .faulted .badMagic := by
  obtain ⟨t, h, _⟩ := next_of_ends (p := fun _ => true) (r := step (code 0x8000 [0xEA] base)) (by decide +kernel)
  exact ⟨⟨t, h⟩, fault_of_faults (by decide +kernel), rfl, rfl⟩
/-- An instruction running over the end of the address space, with a pending value of `status`. -/
theorem witness_StepRunsTheDecodedInstruction : ∃ s1,
    (code 0xFFFF [0x4C, 0x34, 0x12] { base with statusIn := [1] }).halted = .running ∧
    wellFormed (.jmpAbs 0x1234) = true ∧ (encode (.jmpAbs 0x1234)).head? = some 0x4C ∧
    readBytes 3 0xFFFF (drawStatus (code 0xFFFF [0x4C, 0x34, 0x12] { base with statusIn := [1] })) =
      .ok (encode (.jmpAbs 0x1234), s1) := by
  obtain ⟨⟨bs, s1⟩, h, hb⟩ := ok_of_answers (p := fun x => x.1 == encode (.jmpAbs 0x1234))
    (r := readBytes 3 0xFFFF (drawStatus (code 0xFFFF [0x4C, 0x34, 0x12] { base with statusIn := [1] })))
    (by decide +kernel)
  exact ⟨s1, rfl, by decide +kernel, rfl, by rw [h, show bs = encode (.jmpAbs 0x1234) from by simpa using hb]⟩
theorem witness_UnimplementedOpcodeFaults : base.halted = .running ∧
    busRead 0x8000 (drawStatus { base with prg := [(0, 0x02)] }) = .ok (0x02, { base with prg := [(0, 0x02)] }) ∧
    (0x02 : Byte) ∈ Config.unimplemented ∧ (0xFF : Byte) ∈ Config.unimplemented :=
  ⟨rfl, eq_ok (by decide +kernel), by decide, by decide⟩
/-- A transfer that leaves `pc0`, and an instruction that is none; both in work memory. -/
theorem witness_StepAdvancesByLength :
    (∃ s1 u, (code 0x0200 [0xEA] base).halted = .running ∧ wellFormed .nop = true ∧ (encode .nop).head? = some 0xEA ∧
      readBytes 1 0x0200 (drawStatus (code 0x0200 [0xEA] base)) = .ok (encode .nop, s1) ∧
      exec .nop (s1.setPc 0x0201) = .next u ∧ u.pc = 0x0201 ∧ ¬ ControlTransfer .nop) ∧
    (∃ s1 u, (code 0x0200 [0x60] base).halted = .running ∧ wellFormed .rts = true ∧ (encode .rts).head? = some 0x60 ∧
      readBytes 1 0x0200 (drawStatus (code 0x0200 [0x60] base)) = .ok (encode .rts, s1) ∧
      exec .rts (s1.setPc 0x0201) = .next u ∧ u.pc ≠ 0x0201) := by
  refine ⟨⟨code 0x0200 [0xEA] base, _, rfl, by decide +kernel, rfl, eq_ok (by decide +kernel), rfl, by decide +kernel, fun h => ?_⟩,
    ⟨code 0x0200 [0x60] base, _, rfl, by decide +kernel, rfl, eq_ok (by decide +kernel), rfl, by decide +kernel⟩⟩
  cases h with
  | branch hb => cases hb
/-- Each row of R123's table: the pointer, the flag, the stacked addresses and the break vector that name `pc0`. -/
theorem witness_TransferToNextByteFallsThrough :
    (∃ s1, indirectTarget 0x02FF { base with pc := 0x9001, wram := [(0x200, 0x90), (0x2FF, 0x01)] } = .ok (0x9001, s1)) ∧
    (BranchForm (.bne 0xFF) 0xD0 .z false 0xFF ∧ base.flag .z = false) ∧
    (∃ t, exec .rts { base with stack := [(2, 0x80)], pc := 0x8001 } = .next t ∧ t.pc = 0x8001) ∧
    (∃ t, exec .rti { base with stack := [(2, 0x01), (3, 0x80)], pc := 0x8001 } = .next t ∧ t.pc = 0x8001) ∧
    (∃ t, exec .brk { base with pc := 0x9000 } = .next t ∧ t.pc = 0x9000) := by
  refine ⟨⟨_, rfl⟩, ⟨.bne 0xFF, rfl⟩, ⟨_, rfl, by decide +kernel⟩, ⟨_, rfl, by decide +kernel⟩, ⟨_, rfl, by decide +kernel⟩⟩
/-- The last byte of work memory in its last and first copies, and both ends of cartridge RAM. -/
theorem witness_WritableMemoryReadsBack : ((0x7FF : Nat) < 0x0800 ∧ (3 : Nat) < 4 ∧ (0 : Nat) < 4) ∧
    (0x6000 ≤ (0x6000 : Word).toNat ∧ (0x6000 : Word).toNat ≤ 0x7FFF) ∧
    (0x6000 ≤ (0x7FFF : Word).toNat ∧ (0x7FFF : Word).toNat ≤ 0x7FFF) := by decide
theorem witness_RomReadsAreMirrored : 0x8000 ≤ (0xBFFF : Word).toNat ∧ (0xBFFF : Word).toNat ≤ 0xBFFF ∧
    { base with prgSize := .kib16 }.prgSize = .kib16 ∧ 0x8000 ≤ (0xFFFF : Word).toNat := by decide
/-- The edges of the unmapped and the read-only range. -/
theorem witness_UnmappedAndReadOnlyAddressesFault : (0x4019 ≤ (0x4019 : Word).toNat ∧ (0x5FFF : Word).toNat ≤ 0x5FFF) ∧
    0x8000 ≤ (0x8000 : Word).toNat ∧ busRead 0x4019 base = .error (.unmappedAddress 0x4019 .read) ∧
    busWrite 0xFFFF 0 base = .error (.readOnlyViolation .bus 0xFFFF) :=
  ⟨by decide, by decide, unmapped_read, rom_write⟩
/-- Both edges of the register window and of the stub region, with its one exception. -/
theorem witness_WindowRepeatsAndStubIgnoresWrites :
    (0x2000 ≤ (0x2000 : Word).toNat ∧ (0x3FFF : Word).toNat ≤ 0x3FFF) ∧
    (0x4000 ≤ (0x4000 : Word).toNat ∧ (0x4018 : Word).toNat ≤ 0x4018 ∧ (0x4018 : Word).toNat ≠ 0x4014 ∧
      (0x4014 : Word).toNat = 0x4014) := by decide
/-- The first and last copy of index 2, and an address beside one. -/
theorem witness_BusReadClearsOnlyTheToggle :
    (∃ v t, busRead 0x2002 base = .ok (v, t)) ∧ (0x2002 : Word).toNat = 0x2002 + 8 * 0 ∧
    (∃ v t, busRead 0x3FFA base = .ok (v, t)) ∧ (0x3FFA : Word).toNat = 0x2002 + 8 * 1023 ∧
    (∃ v t, busRead 0x1FFF base = .ok (v, t)) ∧ ¬ ∃ k, k < 1024 ∧ (0x1FFF : Word).toNat = 0x2002 + 8 * k := by
  refine ⟨⟨0, base.setW false, eq_ok (by decide +kernel)⟩, rfl, ⟨0, base.setW false, eq_ok (by decide +kernel)⟩, rfl, ⟨0, base, eq_ok (by decide +kernel)⟩, ?_⟩
  rintro ⟨k, hk, e⟩
  have : (0x1FFF : Word).toNat = 0x1FFF := rfl
  omega
theorem witness_SixteenBitAccessIsTwoBytes :
    (∃ s1 s2, busRead 0xFFFF base = .ok (0x90, s1) ∧ busRead 0x0000 s1 = .ok (0x00, s2)) ∧
    busRead 0x4019 base = .error (.unmappedAddress 0x4019 .read) ∧
    (∃ s1 s2, busWrite 0x1FFF 0x34 base = .ok s1 ∧ busWrite 0x2000 0x12 s1 = .ok s2) ∧
    busWrite 0xFFFF 0 base = .error (.readOnlyViolation .bus 0xFFFF) :=
  ⟨⟨base, base, rom_read, rfl⟩, unmapped_read, ⟨base.setWram [(0x7FF, 0x34)],
    (base.setWram [(0x7FF, 0x34)]).setCtrl 0x12, eq_ok (by decide +kernel), eq_ok (by decide +kernel)⟩, rom_write⟩
/-- Addresses on both sides of the line, for a read and for a write. -/
theorem witness_AccessesAnswerExactlyWhereMapped : Readable 0x4018 base ∧ ¬ Readable 0x4019 base ∧
    Writable 0x7FFF 0 base ∧ ¬ Writable 0x8000 0 base ∧ Writable 0x4014 0x1F base ∧ ¬ Writable 0x4014 0x20 base := by
  unfold Readable Writable Copyable VideoReadable VideoWritable
  refine ⟨?_, ?_, ?_, ?_, ?_, ?_⟩ <;> decide
theorem witness_UnlistedRegisterAccessFaults : ((6 : Nat) ≠ 2 ∧ (6 : Nat) ≠ 4 ∧ (6 : Nat) ≠ 7) ∧ (8 : Nat) < 9 := by decide
theorem witness_RawAndScrollWritesStoreTheByte : base.w = false ∧ { base with w := true }.w = true := ⟨rfl, rfl⟩
/-- Both ends of each of the three ranges, and the addresses beside them. -/
theorem witness_VideoReadByRange : (0x1FFF : Word).toNat < base.chrSize.bytes ∧
    (0x2000 ≤ (0x2000 : Word).toNat ∧ (0x2FFF : Word).toNat ≤ 0x2FFF) ∧
    (0x3F00 ≤ (0x3F00 : Word).toNat ∧ (0x3FFF : Word).toNat ≤ 0x3FFF) ∧
    ¬ VideoReadable 0x3000 base ∧ ¬ VideoReadable 0x3EFF base ∧ ¬ VideoReadable 0x4000 base ∧
    ¬ VideoReadable 0x0000 { base with chrSize := .none } := by
  unfold VideoReadable
  decide
theorem witness_VideoWriteByRange : (0x1FFF : Word).toNat ≤ 0x1FFF ∧ VideoWritable 0x2000 ∧ VideoWritable 0x2FFF ∧
    VideoWritable 0x3F00 ∧ VideoWritable 0x3FFF ∧ (0x2000 ≤ (0x3000 : Word).toNat ∧ ¬ VideoWritable 0x3000) ∧
    (0x2000 ≤ (0x4000 : Word).toNat ∧ ¬ VideoWritable 0x4000) := by
  unfold VideoWritable
  decide
/-- The values at both ends of each clause. -/
theorem witness_BulkCopyFillsOam : (Copyable 0x1F ∧ Copyable 0x60) ∧ (0x20 ≤ (0x20 : Byte).toNat ∧ (0x3F : Byte).toNat ≤ 0x3F) ∧
    (0x40 : Byte).toNat = 0x40 ∧ (0x41 ≤ (0x41 : Byte).toNat ∧ (0x5F : Byte).toNat ≤ 0x5F) := by
  unfold Copyable
  decide
/-- A pointer at the end of its page, one inside it, one whose second byte cannot be read, and one that cannot be
read. -/
theorem witness_IndirectPointerWrapsInItsPage :
    (∃ lo hi s1 s2, (0x0200 : Word).toNat = (if (0x02FF : Word).toNat % 256 = 0xFF then (0x02FF : Word).toNat / 256 * 256
        else (0x02FF : Word).toNat + 1) ∧ busRead 0x02FF base = .ok (lo, s1) ∧ busRead 0x0200 s1 = .ok (hi, s2)) ∧
    (∃ lo hi s1 s2, (0x02FF : Word).toNat = (if (0x02FE : Word).toNat % 256 = 0xFF then (0x02FE : Word).toNat / 256 * 256
        else (0x02FE : Word).toNat + 1) ∧ busRead 0x02FE base = .ok (lo, s1) ∧ busRead 0x02FF s1 = .ok (hi, s2)) ∧
    ((0x4019 : Word).toNat = (if (0x4018 : Word).toNat % 256 = 0xFF then (0x4018 : Word).toNat / 256 * 256
        else (0x4018 : Word).toNat + 1) ∧ busRead 0x4018 base = .ok (0, base)) ∧
    busRead 0x4019 base = .error (.unmappedAddress 0x4019 .read) :=
  ⟨⟨_, _, _, _, by decide, rfl, rfl⟩, ⟨_, _, _, _, by decide, rfl, rfl⟩, ⟨by decide, rfl⟩, unmapped_read⟩
/-- `SetZN` keeps a flag that is neither Z nor N. -/
theorem witness_SetZNFollowsTheResult : Flag.v ≠ .z ∧ Flag.v ≠ .n := by decide

theorem witness_LoadTakesTheOperand : LoadForm (.ldxAbs 0x2002) 0xAE .x (.mem (.abs 0x2002)) ∧
    (∃ m s1, Source.read (.mem (.abs 0x2002)) { base with w := true } = .ok (m, s1) ∧ s1.w = false) ∧
    LoadForm (.ldxAbs 0x4019) 0xAE .x (.mem (.abs 0x4019)) ∧
    Source.read (.mem (.abs 0x4019)) base = .error (.unmappedAddress 0x4019 .read) :=
  ⟨.ldxAbs _, readable_operand, .ldxAbs _, unreadable_operand⟩
/-- A store that answers, at a register-window address, and one that faults. -/
theorem witness_StoreWritesTheRegister : StoreForm (.staAbs 0x3FFC) 0x8D .a (.abs 0x3FFC) ∧ Writable 0x3FFC 0 base ∧
    storesTo 0x3FFC base .oam 0 ∧ ¬ storesTo 0x3FFC base .oam 1 ∧ (0x3FFC : Word).toNat ≠ 0x4014 ∧
    StoreForm (.staAbs 0xFFFF) 0x8D .a (.abs 0xFFFF) ∧
    busWrite 0xFFFF 0 base = .error (.readOnlyViolation .bus 0xFFFF) := by
  refine ⟨.staAbs _, ?_, ⟨rfl, rfl⟩, fun h => absurd h.2 (by decide), by decide, .staAbs _, rom_write⟩
  unfold Writable Copyable VideoWritable
  decide
theorem witness_TransfersCopyARegister : TransferForm .tsx 0xBA .sp .x := .tsx
theorem witness_AdcAddsWithCarry : AdcForm (.adcAbs 0x2002) 0x6D (.mem (.abs 0x2002)) ∧
    (∃ m s1, Source.read (.mem (.abs 0x2002)) { base with w := true } = .ok (m, s1) ∧ s1.w = false) ∧
    AdcForm (.adcAbs 0x4019) 0x6D (.mem (.abs 0x4019)) ∧
    Source.read (.mem (.abs 0x4019)) base = .error (.unmappedAddress 0x4019 .read) :=
  ⟨.adcAbs _, readable_operand, .adcAbs _, unreadable_operand⟩
theorem witness_SbcSubtractsWithBorrow : SbcForm (.sbcAbs 0x2002) 0xED (.mem (.abs 0x2002)) ∧
    (∃ m s1, Source.read (.mem (.abs 0x2002)) { base with w := true } = .ok (m, s1) ∧ s1.w = false) ∧
    SbcForm (.sbcAbs 0x4019) 0xED (.mem (.abs 0x4019)) ∧
    Source.read (.mem (.abs 0x4019)) base = .error (.unmappedAddress 0x4019 .read) :=
  ⟨.sbcAbs _, readable_operand, .sbcAbs _, unreadable_operand⟩
theorem witness_LogicCombinesBits : AndForm (.andImm 0xFF) 0x29 (.imm 0xFF) ∧ OraForm (.oraAbs 0x2002) 0x0D (.mem (.abs 0x2002)) ∧
    EorForm (.eorAbs 0x4019) 0x4D (.mem (.abs 0x4019)) ∧ (∃ m s1, Source.read (.imm 0xFF) base = .ok (m, s1)) ∧
    (∃ m s1, Source.read (.mem (.abs 0x2002)) { base with w := true } = .ok (m, s1) ∧ s1.w = false) ∧
    Source.read (.mem (.abs 0x4019)) base = .error (.unmappedAddress 0x4019 .read) :=
  ⟨.andImm _, .oraAbs _, .eorAbs _, ⟨_, _, rfl⟩, readable_operand, unreadable_operand⟩
theorem witness_BitTestsTheOperand : BitForm (.bitAbs 0x2002) 0x2C (.abs 0x2002) ∧
    (∃ m s1, Source.read (.mem (.abs 0x2002)) { base with w := true } = .ok (m, s1) ∧ s1.w = false) ∧ BitForm (.bitAbs 0x4019) 0x2C (.abs 0x4019) ∧
    Source.read (.mem (.abs 0x4019)) base = .error (.unmappedAddress 0x4019 .read) :=
  ⟨.bitAbs _, readable_operand, .bitAbs _, unreadable_operand⟩
theorem witness_CompareSetsThreeFlags : CompareForm (.cpyAbs 0x2002) 0xCC .y (.mem (.abs 0x2002)) ∧
    (∃ m s1, Source.read (.mem (.abs 0x2002)) { base with w := true } = .ok (m, s1) ∧ s1.w = false) ∧
    CompareForm (.cpyAbs 0x4019) 0xCC .y (.mem (.abs 0x4019)) ∧
    Source.read (.mem (.abs 0x4019)) base = .error (.unmappedAddress 0x4019 .read) :=
  ⟨.cpyAbs _, readable_operand, .cpyAbs _, unreadable_operand⟩
/-- A read-modify-write that answers, one whose read faults, and one whose write faults after its read. -/
theorem witness_IncDecMemoryWritesBack : (IncForm (.incAbs 0x07FF) 0xEE (.abs 0x07FF) ∧ (1 : Nat) = 1) ∧
    (DecForm (.decAbs 0x07FF) 0xCE (.abs 0x07FF) ∧ (255 : Nat) = 255) ∧
    (∃ s1 s2, busRead 0x07FF base = .ok (0, s1) ∧ (0xFF : Byte).toNat = ((0 : Byte).toNat + 255) % 256 ∧
      busWrite 0x07FF 0xFF s1 = .ok s2) ∧
    busRead 0x4019 base = .error (.unmappedAddress 0x4019 .read) ∧
    (∃ s1, busRead 0xFFFF base = .ok (0x90, s1) ∧ (0x91 : Byte).toNat = ((0x90 : Byte).toNat + 1) % 256 ∧
      busWrite 0xFFFF 0x91 s1 = .error (.readOnlyViolation .bus 0xFFFF)) :=
  ⟨⟨.incAbs _, rfl⟩, ⟨.decAbs _, rfl⟩, ⟨_, _, rfl, rfl, rfl⟩, unmapped_read,
    ⟨base, rom_read, rfl, error_of_fails (by decide +kernel)⟩⟩
theorem witness_IncDecRegisterWraps : StepRegForm .inx 0xE8 .x 1 ∧ StepRegForm .dey 0x88 .y 255 := ⟨.inx, .dey⟩
theorem witness_ShiftAccumulatorByOne : ShiftForm .rorAcc 0x6A .ror .acc := .rorAcc
/-- A shift that answers, one whose read faults, and one whose write faults after its read. -/
theorem witness_ShiftMemoryByOne : ShiftForm (.rolAbs 0x07FF) 0x2E .rol (.mem (.abs 0x07FF)) ∧
    (∃ s1 s2, busRead 0x07FF base = .ok (0, s1) ∧ (0 : Byte).toNat = ShiftKind.rol.result (0 : Byte).toNat base.carry ∧
      busWrite 0x07FF 0 s1 = .ok s2) ∧
    busRead 0x4019 base = .error (.unmappedAddress 0x4019 .read) ∧
    (∃ s1, busRead 0xFFFF base = .ok (0x90, s1) ∧
      (0x20 : Byte).toNat = ShiftKind.rol.result (0x90 : Byte).toNat base.carry ∧
      busWrite 0xFFFF 0x20 s1 = .error (.readOnlyViolation .bus 0xFFFF)) :=
  ⟨.rolAbs _, ⟨_, _, rfl, by decide, rfl⟩, unmapped_read,
    ⟨base, rom_read, by decide, error_of_fails (by decide +kernel)⟩⟩
theorem witness_JmpGoesToItsTarget : (∃ target s1, indirectTarget 0x02FF base = .ok (target, s1)) ∧
    indirectTarget 0x4019 base = .error (.unmappedAddress 0x4019 .read) :=
  ⟨⟨_, _, rfl⟩, error_of_fails (by decide +kernel)⟩
/-- A branch with its flag at each value, and the two ends of its range. -/
theorem witness_BranchTestsItsFlag : BranchForm (.bvs 0x80) 0x70 .v true 0x80 ∧ BranchForm (.bpl 0x7F) 0x10 .n false 0x7F ∧
    base.flag .v ≠ true ∧ base.flag .n = false ∧ { base with p := 0x40 }.flag .v = true :=
  ⟨.bvs _, .bpl _, by decide, by decide, by decide⟩
theorem witness_FlagInstructionsWriteOneFlag : FlagForm .sed 0xF8 .d true ∧ FlagForm .clv 0xB8 .v false := ⟨.sed, .clv⟩
theorem witness_OnlyListedInstructionsWriteFlags : (∃ t, exec .php base = .next t) ∧ ¬ FlagWriter .c .php := by
  refine ⟨⟨_, rfl⟩, fun h => ?_⟩
  cases h with
  | flagOp h => cases h
  | load h | transfer h | adc h | sbc h | and h | ora h | eor h | bit h | compare h | inc h | dec h | stepReg h
  | shift h => cases h
/-- Two values of `P` that differ in I, D, B and U only; an instruction that completes and one that faults. -/
theorem witness_InertFlagsInfluenceNothing : Instr.plp ≠ .php ∧ Instr.plp ≠ .brk ∧ readBits 0x3C = readBits base.p ∧
    (∃ t, exec .plp base = .next t) ∧ Instr.ldaAbs 0x5000 ≠ .php ∧ Instr.ldaAbs 0x5000 ≠ .brk ∧
    exec (.ldaAbs 0x5000) base = .fault (.unmappedAddress 0x5000 .read) :=
  ⟨by decide, by decide, by decide, ⟨_, rfl⟩, by decide, by decide, fault_of_faults (by decide +kernel)⟩
theorem witness_OnlyTheirOwnInstructionsTouch : (∃ t, exec (.ldaAbs 0x2002) base = .next t) ∧
    ¬ ControlTransfer (.ldaAbs 0x2002) ∧ ¬ StackUser (.ldaAbs 0x2002) ∧ (Instr.ldaAbs 0x2002) ≠ .txs ∧
    ¬ ∃ mode, BusWriter (.ldaAbs 0x2002) mode := by
  refine ⟨⟨_, rfl⟩, fun h => ?_, (fun h => by cases h), by decide, fun ⟨_, h⟩ => ?_⟩
  · cases h with
    | branch hb => cases hb
  · cases h <;> rename_i h <;> cases h
theorem witness_ImpliedInstructionsNeverFault : (encode .brk).length = 1 ∧ BranchForm (.bcs 0) 0xB0 .c true 0 ∧
    Instr.jsr 0xFFFF = .jsr 0xFFFF := ⟨rfl, .bcs 0, rfl⟩
theorem witness_LoadInstallsTheCartridge :
    Cartridge.sized ⟨List.replicate 16384 0xEA, []⟩ ∧ InitMem.wf ⟨[], [], [], [], [], [(31, 1)]⟩ = true ∧
    (16383 : Nat) < (List.replicate 16384 (0xEA : Byte)).length ∧
    Cartridge.sized ⟨List.replicate 32768 0xEA, List.replicate 8192 0⟩ ∧
    (8191 : Nat) < (List.replicate 8192 (0 : Byte)).length ∧ ¬ Cartridge.sized ⟨[1, 2, 3], []⟩ :=
  ⟨⟨.inl List.length_replicate, .inl rfl⟩, by decide +kernel, by rw [List.length_replicate]; decide,
    ⟨.inr List.length_replicate, .inr List.length_replicate⟩, by rw [List.length_replicate]; decide,
    fun h => by rcases h.1 with h | h <;> cases h⟩
/-- A wrong magic; a right one with a mapper number that is not 0; admitted sizes with exactly the bytes they ask for,
without and with a trainer; sizes that are not admitted; and too few bytes. -/
theorem witness_CartridgeFileChecks :
    List.take 4 [0x4E, 0x45, 0x53, (0x00 : Byte)] ≠ [0x4E, 0x45, 0x53, 0x1A] ∧
    ((header 2 1 0x10 0).take 4 = [0x4E, 0x45, 0x53, 0x1A] ∧ (header 2 1 0x10 0).drop 4 = 2 :: 1 :: 0x10 :: 0 :: List.replicate 8 0 ∧
      (1 : Byte).toNat = (0 : Byte).toNat / 16 * 16 + (0x10 : Byte).toNat / 16 ∧ (1 : Byte) ≠ 0) ∧
    ((0 : Byte).toNat / 16 = 0 ∧ (0x08 : Byte).toNat / 16 = 0 ∧
      bodyStart 0 + 16384 * (1 : Byte).toNat + 8192 * (0 : Byte).toNat =
        (header 1 0 0 0 ++ List.replicate 16384 0xEA).length ∧
      bodyStart 0x08 + 16384 * (2 : Byte).toNat + 8192 * (1 : Byte).toNat =
        (header 2 1 0x08 0 ++ List.replicate 41472 0xEA).length) ∧
    ¬(3 = (1 : Byte) ∨ 3 = (2 : Byte)) ∧
    ¬ bodyStart 0 + 16384 * (2 : Byte).toNat + 8192 * (1 : Byte).toNat ≤ (header 2 1 0 0).length := by
  refine ⟨by decide, ⟨rfl, rfl, rfl, by decide⟩, ⟨rfl, rfl, ?_, ?_⟩, by decide, by decide⟩
  · rw [List.length_append, List.length_replicate]; rfl
  · rw [List.length_append, List.length_replicate]; rfl

end Sys2Proof.Tests
end

section
/-! What every instruction, and so every step, keeps: the status byte, the cartridge, the run and the canonical form
of the stores (10_state.md sections 1 to 4).  One frame lemma for each shared meaning, one case split over the shapes. -/

namespace Sys2Proof.Machine

/-- What no instruction changes, and that it keeps the stores canonical. -/
structure InstrFrame (s t : State) : Prop where
  run : KeepsRun s t
  prg : t.prg = s.prg
  chr : t.chr = s.chr
  wf : s.wf = true → t.wf = true

namespace InstrFrame

theorem refl (s : State) : InstrFrame s s := ⟨⟨rfl, rfl, rfl, rfl, rfl⟩, rfl, rfl, id⟩

variable {s t : State} (h : InstrFrame s t)
include h

theorem trans {u : State} (k : InstrFrame t u) : InstrFrame s u := by
  obtain ⟨⟨h1, h2, h3, h4, h5⟩, h6, h7, h8⟩ := h
  obtain ⟨⟨k1, k2, k3, k4, k5⟩, k6, k7, k8⟩ := k
  exact ⟨⟨k1.trans h1, k2.trans h2, k3.trans h3, k4.trans h4, k5.trans h5⟩, k6.trans h6, k7.trans h7, k8 ∘ h8⟩

theorem setW (v : Bool) : InstrFrame s (t.setW v) := ⟨h.run, h.prg, h.chr, h.wf⟩

theorem setP (v : Byte) : InstrFrame s (t.setP v) := ⟨h.run, h.prg, h.chr, h.wf⟩

theorem setPc (v : Word) : InstrFrame s (t.setPc v) := ⟨h.run, h.prg, h.chr, h.wf⟩

theorem setReg (r : Reg) (v : Byte) : InstrFrame s (t.setReg r v) := by
  cases r <;> exact ⟨h.run, h.prg, h.chr, h.wf⟩

theorem push (v : Byte) : InstrFrame s (push v t) :=
  ⟨h.run, h.prg, h.chr, fun hw => wf_push v (h.wf hw)⟩

end InstrFrame

/-- A bus access keeps what every instruction keeps. -/
theorem BusFrame.instr {s t : State} (h : BusFrame s t) : InstrFrame s t :=
  ⟨⟨h.status, h.prgSize, h.chrSize, h.halted, h.statusIn⟩, h.prg, h.chr, h.wf⟩

section
variable {s t : State}

theorem loadReg_frame {r : Reg} {src : Source} (h : loadReg r src s = .next t) : InstrFrame s t := by
  obtain ⟨m, s1, hr, rfl⟩ := loadReg_next.mp h
  exact ((source_read_frame hr).instr.setReg r m).setP _

theorem storeReg_frame {r : Reg} {mode : AddrMode} (h : storeReg r mode s = .next t) : BusFrame s t :=
  busWrite_frame (storeReg_next.mp h)

theorem transferReg_frame {q r : Reg} (h : transferReg q r s = .next t) : InstrFrame s t := by
  cases h
  exact ((InstrFrame.refl s).setReg r _).setP _

theorem addToA_frame {adder : Byte → Byte → Bool → Sum} {src : Source} (h : addToA adder src s = .next t) :
    InstrFrame s t := by
  obtain ⟨m, s1, hr, rfl⟩ := addToA_next.mp h
  exact ((source_read_frame hr).instr.setReg .a _).setP _

theorem logicToA_frame {f : Byte → Byte → Byte} {src : Source} (h : logicToA f src s = .next t) :
    InstrFrame s t := by
  obtain ⟨m, s1, hr, rfl⟩ := logicToA_next.mp h
  exact ((source_read_frame hr).instr.setReg .a _).setP _

theorem bitTest_frame {mode : AddrMode} (h : bitTest mode s = .next t) : InstrFrame s t := by
  obtain ⟨m, s1, hr, rfl⟩ := bitTest_next.mp h
  exact (source_read_frame hr).instr.setP _

theorem compareReg_frame {r : Reg} {src : Source} (h : compareReg r src s = .next t) : InstrFrame s t := by
  obtain ⟨m, s1, hr, rfl⟩ := compareReg_next.mp h
  exact (source_read_frame hr).instr.setP _

theorem modify_instrFrame {tg : Target} {value flags : Byte → State → Byte}
    (h : finish (tg.modify value flags s) = .next t) : InstrFrame s t := by
  obtain ⟨u, hu, ht⟩ := modify_frame (finish_eq_next.mp h)
  rw [ht]
  exact (hu.instr.setReg .a _).setP _

theorem stepReg_frame {r : Reg} {d : Byte} (h : stepReg r d s = .next t) : InstrFrame s t := by
  cases h
  exact ((InstrFrame.refl s).setReg r _).setP _

theorem branchIf_frame {f : Flag} {want : Bool} {rel : Byte} (h : branchIf f want rel s = .next t) :
    InstrFrame s t := by
  obtain ⟨target, ht⟩ := branchIf_next f want rel s
  rw [ht] at h
  cases h
  exact (InstrFrame.refl s).setPc target

theorem execJmpInd_frame {ptr : Word} (h : execJmpInd ptr s = .next t) : InstrFrame s t := by
  obtain ⟨target, s1, ht, hs⟩ := andThen_eq_ok.mp (finish_eq_next.mp h)
  cases hs
  rw [indirectTarget_ok ht]
  exact (busFrame_setW s _).instr.setPc target

theorem execBrk_frame (h : execBrk s = .next t) : InstrFrame s t := by
  rw [execBrk, takeBreak_eq] at h
  cases h
  exact (((((InstrFrame.refl s).push _).push _).push _).setPc _).setP _

/-- An instruction that answers keeps `status`, the cartridge, the run and the canonical form (R30, R31, R34, R43). -/
theorem exec_frame {i : Instr} (h : exec i s = .next t) : InstrFrame s t := by
  have start := InstrFrame.refl s
  cases shape_of i with
  | load hf => exact loadReg_frame (exec_loadForm hf s ▸ h)
  | store hf => exact (storeReg_frame (exec_storeForm hf s ▸ h)).instr
  | transfer hf => exact transferReg_frame (exec_transferForm hf s ▸ h)
  | adc hf => exact addToA_frame (exec_adcForm hf s ▸ h)
  | sbc hf => exact addToA_frame (exec_sbcForm hf s ▸ h)
  | and hf => exact logicToA_frame (exec_andForm hf s ▸ h)
  | ora hf => exact logicToA_frame (exec_oraForm hf s ▸ h)
  | eor hf => exact logicToA_frame (exec_eorForm hf s ▸ h)
  | bit hf => exact bitTest_frame (exec_bitForm hf s ▸ h)
  | compare hf => exact compareReg_frame (exec_compareForm hf s ▸ h)
  | inc hf => exact modify_instrFrame (exec_incForm hf s ▸ h)
  | dec hf => exact modify_instrFrame (exec_decForm hf s ▸ h)
  | stepReg hf => exact stepReg_frame (exec_stepRegForm hf s ▸ h)
  | shift hf => exact modify_instrFrame (exec_shiftForm hf s ▸ h)
  | branch hf => exact branchIf_frame (exec_branchForm hf s ▸ h)
  | flagOp hf => rw [exec_flagForm hf] at h; cases h; exact start.setP _
  | txs => cases h; exact start.setReg .sp _
  | jmpAbs addr => cases h; exact start.setPc addr
  | jmpInd ptr => exact execJmpInd_frame h
  | jsr addr => cases h; exact ((start.push _).push _).setPc addr
  | rts => cases h; exact (start.setReg .sp _).setPc _
  | pha => cases h; exact start.push _
  | php => cases h; exact start.push _
  | pla => cases h; exact ((start.setReg .sp _).setReg .a _).setP _
  | plp => cases h; exact (start.setReg .sp _).setP _
  | nop => cases h; exact start
  | brk => exact execBrk_frame h
  | rti => cases h; exact ((start.setReg .sp _).setP _).setPc _

/-- The host's draw replaces `status` and the pending values at most. -/
theorem drawStatus_eq (s : State) : ∃ v vs, drawStatus s = (s.setStatus v).setStatusIn vs := by
  cases h : s.statusIn with
  | nil => exact ⟨s.status, s.statusIn, drawStatus_nil h⟩
  | cons v vs => exact ⟨v, vs, drawStatus_cons h⟩

/-- A step that answers keeps what an instruction keeps, on the state after the host's draw. -/
theorem step_frame (h : step s = .next t) :
    ∃ v vs, InstrFrame ((s.setStatus v).setStatusIn vs) t := by
  obtain ⟨_, f, s1, u, hf, hu, ht, _⟩ := step_next h
  obtain ⟨v, vs, hd⟩ := drawStatus_eq s
  refine ⟨v, vs, ?_⟩
  have hs1 : InstrFrame (drawStatus s) s1 := by
    rw [fetch_ok hf]
    exact ((InstrFrame.refl (drawStatus s)).setPc _).setW _
  rw [← hd, ht]
  exact (hs1.trans (exec_frame hu)).setPc _

end

/-- Settles O6: the frame of a step keeps the canonical form, and the host's draw touches no store. -/
theorem stepKeepsStoresCanonical : Obligations.StepKeepsStoresCanonical := by
  intro s t hs h
  obtain ⟨v, vs, hf⟩ := step_frame h
  exact hf.wf hs

/-- Settles O7: a step by its frame, `reset()` by what it writes. -/
theorem cartridgeIsImmutable : Obligations.CartridgeIsImmutable := by
  rintro s t (h | h)
  · obtain ⟨v, vs, ⟨_, hprgSize, hchrSize, _, _⟩, hprg, hchr, _⟩ := step_frame h
    exact ⟨fun i => congrArg (Memory.read · i) hprg, fun i => congrArg (Memory.read · i) hchr, hprgSize, hchrSize⟩
  · rw [hostReset_eq] at h
    cases h
    exact ⟨fun _ => rfl, fun _ => rfl, rfl, rfl⟩

/-- Settles O8: the run status by the frame of a step, the rest by what a faulting move and `reset()` leave. -/
theorem faultStopsUntilReset : Obligations.FaultStopsUntilReset := by
  refine ⟨fun s t h => ?_, fun s unknown f h => ?_, fun file init vs s unknown f h => ?_,
    fun s unknown f v hs => ?_⟩
  · have hs := (step_next h).1
    obtain ⟨v, vs, ⟨_, _, _, hhalted, _⟩, _⟩ := step_frame h
    exact ⟨hs, hhalted.trans hs⟩
  · have hm : hostMove unknown .step s = (keepCartridge unknown s).setHalted (.faulted f) :=
      congrArg (settle (keepCartridge unknown s)) h
    rw [hm]
    exact ⟨rfl, _, hostReset_eq _, rfl, rfl, rfl, rfl, rfl, rfl, resetTarget_toNat s⟩
  · exact congrArg (fun r => (settle unknown r).halted) h
  · have h := step_of_faulted hs
    exact ⟨h, congrArg (fun r => (settle (keepCartridge unknown s) r).halted) h, hs⟩

end Sys2Proof.Machine
end

section
/-! Which flags each meaning can change (10_state.md section 1, R25): one lemma for each flag computation, one for
each shared meaning, and the case split over the shapes. -/

namespace Sys2Proof.Machine

section
variable {f : Flag}

theorem getFlag_setZN_of_notMem (p v : Byte) (h : f ∉ [Flag.z, .n]) : getFlag (setZN p v) f = getFlag p f := by
  simp only [List.mem_cons, List.not_mem_nil, or_false, not_or] at h
  exact getFlag_setZN_other p v h.1 h.2

theorem getFlag_sumFlags_of_notMem (p : Byte) (o : Sum) (h : f ∉ [Flag.c, .z, .v, .n]) :
    getFlag (sumFlags p o) f = getFlag p f := by
  simp only [List.mem_cons, List.not_mem_nil, or_false, not_or] at h
  obtain ⟨hc, hz, hv, hn⟩ := h
  rw [sumFlags, getFlag_setZN_other _ _ hz hn, getFlag_putFlag_other _ _ hv, getFlag_putFlag_other _ _ hc]

theorem getFlag_compareFlags_of_notMem (p r m : Byte) (h : f ∉ [Flag.c, .z, .n]) :
    getFlag (compareFlags p r m) f = getFlag p f := by
  simp only [List.mem_cons, List.not_mem_nil, or_false, not_or] at h
  obtain ⟨hc, hz, hn⟩ := h
  rw [compareFlags, getFlag_putFlag_other _ _ hn, getFlag_putFlag_other _ _ hz, getFlag_putFlag_other _ _ hc]

theorem getFlag_bitFlags_of_notMem (p a m : Byte) (h : f ∉ [Flag.z, .v, .n]) :
    getFlag (bitFlags p a m) f = getFlag p f := by
  simp only [List.mem_cons, List.not_mem_nil, or_false, not_or] at h
  obtain ⟨hz, hv, hn⟩ := h
  rw [bitFlags, getFlag_putFlag_other _ _ hv, getFlag_putFlag_other _ _ hn, getFlag_putFlag_other _ _ hz]

theorem getFlag_shiftFlags_of_notMem (p : Byte) (o : Shifted) (h : f ∉ [Flag.c, .z, .n]) :
    getFlag (shiftFlags p o) f = getFlag p f := by
  simp only [List.mem_cons, List.not_mem_nil, or_false, not_or] at h
  obtain ⟨hc, hz, hn⟩ := h
  rw [shiftFlags, getFlag_setZN_other _ _ hz hn, getFlag_putFlag_other _ _ hc]

end

section
variable {s t : State}

/-- Equal status registers have equal flags. -/
theorem keepsFlags_of_p_eq (h : t.p = s.p) : KeepsFlags [] s t := fun f _ => congrArg (getFlag · f) h

theorem loadReg_keepsFlags {r : Reg} {src : Source} (h : loadReg r src s = .next t) :
    KeepsFlags [.z, .n] s t := by
  obtain ⟨m, s1, hr, rfl⟩ := loadReg_next.mp h
  intro f hf
  calc getFlag (setZN (s1.setReg r m).p m) f
    _ = getFlag (s1.setReg r m).p f := getFlag_setZN_of_notMem _ _ hf
    _ = getFlag s.p f := by rw [State.setReg_p, (source_read_frame hr).p]

theorem transferReg_keepsFlags {q r : Reg} (h : transferReg q r s = .next t) : KeepsFlags [.z, .n] s t := by
  cases h
  intro f hf
  calc getFlag (setZN (s.setReg r (s.reg q)).p _) f
    _ = getFlag (s.setReg r (s.reg q)).p f := getFlag_setZN_of_notMem _ _ hf
    _ = getFlag s.p f := by rw [State.setReg_p]

theorem stepReg_keepsFlags {r : Reg} {d : Byte} (h : stepReg r d s = .next t) : KeepsFlags [.z, .n] s t := by
  cases h
  intro f hf
  calc getFlag (setZN (s.setReg r (s.reg r + d)).p _) f
    _ = getFlag (s.setReg r (s.reg r + d)).p f := getFlag_setZN_of_notMem _ _ hf
    _ = getFlag s.p f := by rw [State.setReg_p]

theorem addToA_keepsFlags {adder : Byte → Byte → Bool → Sum} {src : Source} (h : addToA adder src s = .next t) :
    KeepsFlags [.c, .z, .v, .n] s t := by
  obtain ⟨m, s1, hr, rfl⟩ := addToA_next.mp h
  intro f hf
  calc getFlag (sumFlags s1.p _) f
    _ = getFlag s1.p f := getFlag_sumFlags_of_notMem _ _ hf
    _ = getFlag s.p f := by rw [(source_read_frame hr).p]

theorem logicToA_keepsFlags {g : Byte → Byte → Byte} {src : Source} (h : logicToA g src s = .next t) :
    KeepsFlags [.z, .n] s t := by
  obtain ⟨m, s1, hr, rfl⟩ := logicToA_next.mp h
  intro f hf
  calc getFlag (setZN s1.p _) f
    _ = getFlag s1.p f := getFlag_setZN_of_notMem _ _ hf
    _ = getFlag s.p f := by rw [(source_read_frame hr).p]

theorem bitTest_keepsFlags {mode : AddrMode} (h : bitTest mode s = .next t) :
    KeepsFlags [.z, .v, .n] s t := by
  obtain ⟨m, s1, hr, rfl⟩ := bitTest_next.mp h
  intro f hf
  calc getFlag (bitFlags s1.p s1.a m) f
    _ = getFlag s1.p f := getFlag_bitFlags_of_notMem _ _ _ hf
    _ = getFlag s.p f := by rw [(source_read_frame hr).p]

theorem compareReg_keepsFlags {r : Reg} {src : Source} (h : compareReg r src s = .next t) :
    KeepsFlags [.c, .z, .n] s t := by
  obtain ⟨m, s1, hr, rfl⟩ := compareReg_next.mp h
  intro f hf
  calc getFlag (compareFlags s1.p (s1.reg r) m) f
    _ = getFlag s1.p f := getFlag_compareFlags_of_notMem _ _ _ hf
    _ = getFlag s.p f := by rw [(source_read_frame hr).p]

theorem stepMemory_keepsFlags {d : Byte} {mode : AddrMode} (h : stepMemory d mode s = .next t) :
    KeepsFlags [.z, .n] s t := by
  obtain ⟨v, s1, s2, hr, _, rfl⟩ := stepMemory_next h
  intro f hf
  calc getFlag (setZN s1.p (v + d)) f
    _ = getFlag s1.p f := getFlag_setZN_of_notMem _ _ hf
    _ = getFlag s.p f := by rw [(busRead_frame hr).p]

theorem shiftTarget_keepsFlags {op : Byte → Bool → Shifted} {tg : Target} (h : shiftTarget op tg s = .next t) :
    KeepsFlags [.c, .z, .n] s t := by
  intro f hf
  cases tg with
  | acc =>
    cases h
    exact getFlag_shiftFlags_of_notMem _ _ hf
  | mem mode =>
    obtain ⟨v, s1, s2, hr, _, rfl⟩ := shiftTarget_mem_next h
    calc getFlag (shiftFlags s1.p _) f
      _ = getFlag s1.p f := getFlag_shiftFlags_of_notMem _ _ hf
      _ = getFlag s.p f := by rw [(busRead_frame hr).p]

theorem branchIf_p {f : Flag} {want : Bool} {rel : Byte} (h : branchIf f want rel s = .next t) : t.p = s.p := by
  obtain ⟨target, ht⟩ := branchIf_next f want rel s
  rw [ht] at h
  cases h
  rfl

theorem execJmpInd_p {ptr : Word} (h : execJmpInd ptr s = .next t) : t.p = s.p := by
  obtain ⟨target, s1, ht, hs⟩ := andThen_eq_ok.mp (finish_eq_next.mp h)
  cases hs
  rw [indirectTarget_ok ht]
  rfl

theorem execBrk_keepsFlags (h : execBrk s = .next t) : KeepsFlags [.b] s t := by
  rw [execBrk, takeBreak_eq] at h
  cases h
  intro f hf
  rw [State.flag, State.setFlag_p, getFlag_putFlag_other _ _ (by simpa using hf)]
  simp only [State.setPc_p, push_p, pushWord, State.flag]

end

/-- Settles O54: each shape's meaning changes at most the flags R25 lists for it. -/
theorem onlyListedInstructionsWriteFlags : Obligations.OnlyListedInstructionsWriteFlags := by
  intro i s t f h hw
  cases shape_of i with
  | load hf => exact loadReg_keepsFlags (exec_loadForm hf s ▸ h) f fun hm => hw (.load hf hm)
  | store hf => exact keepsFlags_of_p_eq (storeReg_frame (exec_storeForm hf s ▸ h)).p f List.not_mem_nil
  | transfer hf => exact transferReg_keepsFlags (exec_transferForm hf s ▸ h) f fun hm => hw (.transfer hf hm)
  | adc hf => exact addToA_keepsFlags (exec_adcForm hf s ▸ h) f fun hm => hw (.adc hf hm)
  | sbc hf => exact addToA_keepsFlags (exec_sbcForm hf s ▸ h) f fun hm => hw (.sbc hf hm)
  | and hf => exact logicToA_keepsFlags (exec_andForm hf s ▸ h) f fun hm => hw (.and hf hm)
  | ora hf => exact logicToA_keepsFlags (exec_oraForm hf s ▸ h) f fun hm => hw (.ora hf hm)
  | eor hf => exact logicToA_keepsFlags (exec_eorForm hf s ▸ h) f fun hm => hw (.eor hf hm)
  | bit hf => exact bitTest_keepsFlags (exec_bitForm hf s ▸ h) f fun hm => hw (.bit hf hm)
  | compare hf => exact compareReg_keepsFlags (exec_compareForm hf s ▸ h) f fun hm => hw (.compare hf hm)
  | inc hf => exact stepMemory_keepsFlags (exec_incForm hf s ▸ h) f fun hm => hw (.inc hf hm)
  | dec hf => exact stepMemory_keepsFlags (exec_decForm hf s ▸ h) f fun hm => hw (.dec hf hm)
  | stepReg hf => exact stepReg_keepsFlags (exec_stepRegForm hf s ▸ h) f fun hm => hw (.stepReg hf hm)
  | shift hf => exact shiftTarget_keepsFlags (exec_shiftForm hf s ▸ h) f fun hm => hw (.shift hf hm)
  | branch hf => exact keepsFlags_of_p_eq (branchIf_p (exec_branchForm hf s ▸ h)) f List.not_mem_nil
  | flagOp hf =>
    rw [exec_flagForm hf] at h
    cases h
    exact getFlag_putFlag_other _ _ fun hfg => hw (hfg ▸ .flagOp hf)
  | jmpInd ptr => exact keepsFlags_of_p_eq (execJmpInd_p h) f List.not_mem_nil
  | pla => cases h; exact getFlag_setZN_of_notMem _ _ fun hm => hw (.pla hm)
  | plp => exact absurd .plp hw
  | rti => exact absurd .rti hw
  | brk =>
    refine execBrk_keepsFlags h f fun hm => hw ?_
    rw [List.mem_singleton.mp hm]
    exact .brk
  | txs => cases h; rfl
  | jmpAbs addr => cases h; rfl
  | jsr addr => cases h; rfl
  | rts => cases h; rfl
  | pha => cases h; rfl
  | php => cases h; rfl
  | nop => cases h; rfl

end Sys2Proof.Machine
end

section
/-! The flags I, D, B and U influence nothing but PHP and BRK (R25).  Two states that differ only in those bits are
related; every bus access, every operand and every meaning takes related states to related states, with the same value
or the same fault. -/

namespace Sys2Proof.Machine

/-- The second state is the first but for bits I, D, B and U of `P`. -/
def InertEq (s s' : State) : Prop := ∃ p, readBits p = readBits s.p ∧ s' = s.setP p

/-- The two go the same way: related results, or the same fault. -/
inductive Alike {α : Type} (R : α → α → Prop) : Except Fault α → Except Fault α → Prop where
  | ok {x y : α} : R x y → Alike R (.ok x) (.ok y)
  | error (f : Fault) : Alike R (.error f) (.error f)

/-- The same value, with related states. -/
def ValueEq {α : Type} (x y : α × State) : Prop := x.1 = y.1 ∧ InertEq x.2 y.2

/-- The outcomes go the same way: related next states, or the same fault. -/
inductive AlikeOutcome : Result → Result → Prop where
  | next {t t' : State} : InertEq t t' → AlikeOutcome (.next t) (.next t')
  | fault (f : Fault) : AlikeOutcome (.fault f) (.fault f)

/-! ### The bits that are read -/

/-- The bits that are read are the flags C, Z, V and N. -/
theorem getFlag_readBits (p : Byte) (f : Flag) :
    getFlag (readBits p) f = if f ∈ [Flag.c, .z, .v, .n] then getFlag p f else false := by
  cases f <;> simp [getFlag, readBits, Flag.bit]

/-- The same bits are read of two status registers exactly when the four flags agree. -/
theorem readBits_eq_iff {p q : Byte} :
    readBits p = readBits q ↔ ∀ f ∈ [Flag.c, .z, .v, .n], getFlag p f = getFlag q f := by
  constructor
  · intro h f hf
    have hr := congrArg (getFlag · f) h
    simpa only [getFlag_readBits, if_pos hf] using hr
  · refine fun h => eq_of_getFlag fun f => ?_
    rw [getFlag_readBits, getFlag_readBits]
    split
    · exact h f ‹_›
    · rfl

/-- A flag written to the same value leaves two status registers with the same read bits so. -/
theorem readBits_putFlag {p q : Byte} (h : readBits p = readBits q) (f : Flag) (v : Bool) :
    readBits (putFlag p f v) = readBits (putFlag q f v) := by
  rw [readBits_eq_iff] at h ⊢
  intro g hg
  rw [getFlag_putFlag, getFlag_putFlag, h g hg]

theorem readBits_setZN {p q : Byte} (h : readBits p = readBits q) (v : Byte) :
    readBits (setZN p v) = readBits (setZN q v) :=
  readBits_putFlag (readBits_putFlag h _ _) _ _

theorem readBits_sumFlags {p q : Byte} (h : readBits p = readBits q) (o : Sum) :
    readBits (sumFlags p o) = readBits (sumFlags q o) :=
  readBits_setZN (readBits_putFlag (readBits_putFlag h _ _) _ _) _

theorem readBits_compareFlags {p q : Byte} (h : readBits p = readBits q) (r m : Byte) :
    readBits (compareFlags p r m) = readBits (compareFlags q r m) :=
  readBits_putFlag (readBits_putFlag (readBits_putFlag h _ _) _ _) _ _

theorem readBits_bitFlags {p q : Byte} (h : readBits p = readBits q) (a m : Byte) :
    readBits (bitFlags p a m) = readBits (bitFlags q a m) :=
  readBits_putFlag (readBits_putFlag (readBits_putFlag h _ _) _ _) _ _

theorem readBits_shiftFlags {p q : Byte} (h : readBits p = readBits q) (o : Shifted) :
    readBits (shiftFlags p o) = readBits (shiftFlags q o) :=
  readBits_setZN (readBits_putFlag h _ _) _

/-- A branch tests one of the flags that are read. -/
theorem BranchForm.flag_mem {i : Instr} {op : Byte} {f : Flag} {v : Bool} {rel : Byte}
    (hi : BranchForm i op f v rel) : f ∈ [Flag.c, .z, .v, .n] := by
  cases hi <;> decide

/-! ### Related states -/

namespace InertEq

variable {s s' : State} (h : InertEq s s')
include h

theorem readBits_p : readBits s'.p = readBits s.p := by
  obtain ⟨p, hp, rfl⟩ := h
  exact hp

theorem flag {f : Flag} (hf : f ∈ [Flag.c, .z, .v, .n]) : s'.flag f = s.flag f :=
  readBits_eq_iff.mp h.readBits_p f hf

theorem reg (r : Reg) : s'.reg r = s.reg r := by
  obtain ⟨p, _, rfl⟩ := h
  exact State.setP_reg s p r

theorem addrOf (mode : AddrMode) : addrOf mode s' = addrOf mode s := by
  obtain ⟨p, _, rfl⟩ := h
  cases mode <;> rfl

theorem setReg (r : Reg) (v : Byte) : InertEq (s.setReg r v) (s'.setReg r v) := by
  obtain ⟨p, hp, rfl⟩ := h
  cases r <;> exact ⟨p, hp, rfl⟩

theorem setPc (v : Word) : InertEq (s.setPc v) (s'.setPc v) := by
  obtain ⟨p, hp, rfl⟩ := h
  exact ⟨p, hp, rfl⟩

theorem setOam (m : Memory) : InertEq (s.setOam m) (s'.setOam m) := by
  obtain ⟨p, hp, rfl⟩ := h
  exact ⟨p, hp, rfl⟩

theorem pc : s'.pc = s.pc := by
  obtain ⟨p, _, rfl⟩ := h
  rfl

theorem oam : s'.oam = s.oam := by
  obtain ⟨p, _, rfl⟩ := h
  rfl

theorem setP {p p' : Byte} (hp : readBits p' = readBits p) : InertEq (s.setP p) (s'.setP p') := by
  obtain ⟨q, _, rfl⟩ := h
  exact ⟨p', hp, rfl⟩

theorem updateZN (v : Byte) : InertEq (s.updateZN v) (s'.updateZN v) :=
  h.setP (readBits_setZN h.readBits_p v)

end InertEq

/-! ### Sequencing -/

theorem andThen_alike {α β : Type} {R : β → β → Prop} {r r' : Except Fault (α × State)}
    {k k' : α → State → Except Fault β} (hr : Alike ValueEq r r')
    (hk : ∀ v s s', InertEq s s' → Alike R (k v s) (k' v s')) : Alike R (andThen r k) (andThen r' k') := by
  cases hr with
  | error f => exact .error f
  | @ok x y h =>
    obtain ⟨v, s⟩ := x
    obtain ⟨v', s'⟩ := y
    obtain ⟨rfl, hs⟩ := h
    exact hk v s s' hs

theorem finish_alike {r r' : Except Fault State} (h : Alike InertEq r r') :
    AlikeOutcome (finish r) (finish r') := by
  cases h with
  | ok hs => exact .next hs
  | error f => exact .fault f

/-! ### Bus accesses and operands -/

section
variable {s s' : State} (h : InertEq s s')
include h

theorem periphRead_alike (i : Nat) : Alike ValueEq (periphRead i s) (periphRead i s') := by
  obtain ⟨p, hp, rfl⟩ := h
  have hv : videoRead (s.setP p).vaddr (s.setP p) = videoRead s.vaddr s := rfl
  unfold periphRead
  split
  · exact .ok ⟨rfl, p, hp, rfl⟩
  split
  · exact .ok ⟨rfl, p, hp, rfl⟩
  split
  · rw [hv]
    cases videoRead s.vaddr s with
    | ok b => exact .ok ⟨rfl, p, hp, rfl⟩
    | error f => exact .error f
  · exact .error _

theorem busRead_alike (a : Word) : Alike ValueEq (busRead a s) (busRead a s') := by
  have hs := h
  obtain ⟨p, hp, rfl⟩ := hs
  unfold busRead
  cases regionOf a with
  | periph i => exact periphRead_alike h i
  | unmapped => exact .error _
  | wram i => exact .ok ⟨rfl, h⟩
  | bulkCopy => exact .ok ⟨rfl, h⟩
  | stub => exact .ok ⟨rfl, h⟩
  | cram i => exact .ok ⟨rfl, h⟩
  | rom off => exact .ok ⟨rfl, h⟩

theorem videoWrite_alike (va : Word) (v : Byte) : Alike InertEq (videoWrite va v s) (videoWrite va v s') := by
  obtain ⟨p, hp, rfl⟩ := h
  simp only [videoWrite]
  split
  · exact .error _
  split
  · exact .ok ⟨p, hp, rfl⟩
  split
  · exact .ok ⟨p, hp, rfl⟩
  · exact .error _

theorem bulkCopy_alike (v : Byte) (is : List Nat) :
    Alike InertEq (bulkCopy v is s) (bulkCopy v is s') := by
  induction is generalizing s s' with
  | nil => exact .ok h
  | cons i rest ih =>
    refine andThen_alike (busRead_alike h _) fun b s1 s1' h1 => ih ?_
    rw [h1.oam]
    exact h1.setOam _

theorem periphWrite_alike (i : Nat) (v : Byte) : Alike InertEq (periphWrite i v s) (periphWrite i v s') := by
  have hs := h
  obtain ⟨p, hp, rfl⟩ := hs
  match i with
  | 0 | 1 | 3 | 4 | 6 => exact .ok ⟨p, hp, rfl⟩
  | 2 => exact .error _
  | 5 =>
    refine .ok ?_
    rw [State.setP_w]
    cases s.w <;> exact ⟨p, hp, rfl⟩
  | 7 => exact videoWrite_alike h _ v
  | 8 => exact bulkCopy_alike h v _
  | n + 9 => exact .error _

theorem busWrite_alike (a : Word) (v : Byte) : Alike InertEq (busWrite a v s) (busWrite a v s') := by
  have hs := h
  obtain ⟨p, hp, rfl⟩ := hs
  unfold busWrite
  cases regionOf a with
  | wram i => exact .ok ⟨p, hp, rfl⟩
  | periph i => exact periphWrite_alike h i v
  | bulkCopy => exact periphWrite_alike h 8 v
  | stub => exact .ok h
  | unmapped => exact .error _
  | cram i => exact .ok ⟨p, hp, rfl⟩
  | rom off => exact .error _

theorem source_read_alike (src : Source) : Alike ValueEq (src.read s) (src.read s') := by
  cases src with
  | imm v => exact .ok ⟨rfl, h⟩
  | mem mode =>
    rw [read_mem, read_mem, h.addrOf]
    exact busRead_alike h _

/-- A modified target, when the new byte does not depend on the inert bits and the new `P` only in them. -/
theorem modify_alike (tg : Target) {value flags : Byte → State → Byte}
    (hv : ∀ v s s', InertEq s s' → value v s' = value v s)
    (hf : ∀ v s s', InertEq s s' → readBits (flags v s') = readBits (flags v s)) :
    Alike InertEq (tg.modify value flags s) (tg.modify value flags s') := by
  cases tg with
  | acc =>
    have ha : s'.a = s.a := h.reg .a
    simp only [Target.modify, ha, hv _ _ _ h]
    exact .ok ((h.setReg .a _).setP (hf _ _ _ h))
  | mem mode =>
    simp only [Target.modify, effAddr_eq, andThen_ok, h.addrOf]
    refine andThen_alike (busRead_alike h _) fun v s1 s1' h1 => ?_
    rw [hv v _ _ h1]
    have hw := busWrite_alike h1 (addrOf mode s) (value v s1)
    generalize busWrite _ _ s1 = r, busWrite _ _ s1' = r' at hw ⊢
    cases hw with
    | ok h2 => exact .ok (h2.setP (hf v _ _ h1))
    | error f => exact .error f

theorem indirectTarget_alike (ptr : Word) : Alike ValueEq (indirectTarget ptr s) (indirectTarget ptr s') :=
  andThen_alike (busRead_alike h _) fun _ _ _ h1 =>
    andThen_alike (busRead_alike h1 _) fun _ _ _ h2 => .ok ⟨rfl, h2⟩

/-! ### The meanings -/

theorem loadReg_alike (r : Reg) (src : Source) : AlikeOutcome (loadReg r src s) (loadReg r src s') :=
  finish_alike (andThen_alike (source_read_alike h src) fun m _ _ h1 => .ok ((h1.setReg r m).updateZN m))

theorem storeReg_alike (r : Reg) (mode : AddrMode) : AlikeOutcome (storeReg r mode s) (storeReg r mode s') := by
  simp only [storeReg, effAddr_eq, andThen_ok, h.addrOf, h.reg]
  exact finish_alike (busWrite_alike h _ _)

theorem transferReg_alike (q r : Reg) : AlikeOutcome (transferReg q r s) (transferReg q r s') := by
  rw [transferReg, transferReg, h.reg]
  exact .next ((h.setReg r _).updateZN _)

theorem addToA_alike (adder : Byte → Byte → Bool → Sum) (src : Source) :
    AlikeOutcome (addToA adder src s) (addToA adder src s') := by
  refine finish_alike (andThen_alike (source_read_alike h src) fun m s1 s1' h1 => ?_)
  have ha : s1'.a = s1.a := h1.reg .a
  simp only [ha, h1.flag (f := .c) (by decide)]
  exact .ok ((h1.setReg .a _).setP (readBits_sumFlags h1.readBits_p _))

theorem logicToA_alike (f : Byte → Byte → Byte) (src : Source) :
    AlikeOutcome (logicToA f src s) (logicToA f src s') := by
  refine finish_alike (andThen_alike (source_read_alike h src) fun m s1 s1' h1 => ?_)
  have ha : s1'.a = s1.a := h1.reg .a
  rw [ha]
  exact .ok ((h1.setReg .a _).updateZN _)

theorem bitTest_alike (mode : AddrMode) : AlikeOutcome (bitTest mode s) (bitTest mode s') := by
  refine finish_alike (andThen_alike (source_read_alike h _) fun m s1 s1' h1 => ?_)
  have ha : s1'.a = s1.a := h1.reg .a
  rw [ha]
  exact .ok (h1.setP (readBits_bitFlags h1.readBits_p _ _))

theorem compareReg_alike (r : Reg) (src : Source) : AlikeOutcome (compareReg r src s) (compareReg r src s') := by
  refine finish_alike (andThen_alike (source_read_alike h src) fun m s1 s1' h1 => ?_)
  rw [h1.reg]
  exact .ok (h1.setP (readBits_compareFlags h1.readBits_p _ _))

theorem stepMemory_alike (d : Byte) (mode : AddrMode) : AlikeOutcome (stepMemory d mode s) (stepMemory d mode s') :=
  finish_alike (modify_alike h _ (fun _ _ _ _ => rfl) fun _ _ _ h1 => readBits_setZN h1.readBits_p _)

theorem stepReg_alike (r : Reg) (d : Byte) : AlikeOutcome (stepReg r d s) (stepReg r d s') := by
  rw [stepReg, stepReg, h.reg]
  exact .next ((h.setReg r _).updateZN _)

theorem shiftTarget_alike (op : Byte → Bool → Shifted) (tg : Target) :
    AlikeOutcome (shiftTarget op tg s) (shiftTarget op tg s') := by
  refine finish_alike (modify_alike h tg (fun v s1 s1' h1 => ?_) fun v s1 s1' h1 => ?_)
  · rw [h1.flag (by decide)]
  · rw [h1.flag (by decide)]
    exact readBits_shiftFlags h1.readBits_p _

theorem branchIf_alike {f : Flag} (hf : f ∈ [Flag.c, .z, .v, .n]) (want : Bool) (rel : Byte) :
    AlikeOutcome (branchIf f want rel s) (branchIf f want rel s') := by
  simp only [branchIf, h.flag hf, h.pc]
  split
  · exact .next (h.setPc _)
  · exact .next h

theorem execJmpInd_alike (ptr : Word) : AlikeOutcome (execJmpInd ptr s) (execJmpInd ptr s') :=
  finish_alike (andThen_alike (indirectTarget_alike h ptr) fun target _ _ h1 => .ok (h1.setPc target))

/-- Every instruction but PHP and BRK goes the same way from related states. -/
theorem exec_alike {i : Instr} (hphp : i ≠ .php) (hbrk : i ≠ .brk) : AlikeOutcome (exec i s) (exec i s') := by
  have hs := h
  obtain ⟨p, hp, rfl⟩ := hs
  cases shape_of i with
  | load hf => rw [exec_loadForm hf, exec_loadForm hf]; exact loadReg_alike h _ _
  | store hf => rw [exec_storeForm hf, exec_storeForm hf]; exact storeReg_alike h _ _
  | transfer hf => rw [exec_transferForm hf, exec_transferForm hf]; exact transferReg_alike h _ _
  | adc hf => rw [exec_adcForm hf, exec_adcForm hf]; exact addToA_alike h _ _
  | sbc hf => rw [exec_sbcForm hf, exec_sbcForm hf]; exact addToA_alike h _ _
  | and hf => rw [exec_andForm hf, exec_andForm hf]; exact logicToA_alike h _ _
  | ora hf => rw [exec_oraForm hf, exec_oraForm hf]; exact logicToA_alike h _ _
  | eor hf => rw [exec_eorForm hf, exec_eorForm hf]; exact logicToA_alike h _ _
  | bit hf => rw [exec_bitForm hf, exec_bitForm hf]; exact bitTest_alike h _
  | compare hf => rw [exec_compareForm hf, exec_compareForm hf]; exact compareReg_alike h _ _
  | inc hf => rw [exec_incForm hf, exec_incForm hf]; exact stepMemory_alike h _ _
  | dec hf => rw [exec_decForm hf, exec_decForm hf]; exact stepMemory_alike h _ _
  | stepReg hf => rw [exec_stepRegForm hf, exec_stepRegForm hf]; exact stepReg_alike h _ _
  | shift hf => rw [exec_shiftForm hf, exec_shiftForm hf]; exact shiftTarget_alike h _ _
  | branch hf => rw [exec_branchForm hf, exec_branchForm hf]; exact branchIf_alike h hf.flag_mem _ _
  | flagOp hf =>
    rw [exec_flagForm hf, exec_flagForm hf]
    exact .next (h.setP (readBits_putFlag hp _ _))
  | jmpInd ptr => exact execJmpInd_alike h ptr
  | php => exact absurd rfl hphp
  | brk => exact absurd rfl hbrk
  | txs => exact .next ⟨p, hp, rfl⟩
  | jmpAbs addr => exact .next ⟨p, hp, rfl⟩
  | jsr addr => exact .next ⟨p, hp, rfl⟩
  | rts => exact .next ⟨p, hp, rfl⟩
  | pha => exact .next ⟨p, hp, rfl⟩
  | nop => exact .next h
  | pla => exact .next (((h.setReg .sp _).setReg .a _).updateZN _)
  | plp => exact .next ((h.setReg .sp _).setP rfl)
  | rti => exact .next (((h.setReg .sp _).setP rfl).setPc _)

end

theorem AlikeOutcome.of_next {t : State} {r : Result} (h : AlikeOutcome (.next t) r) :
    ∃ u, r = .next u ∧ InertEq t u := by
  cases h with
  | next ht => exact ⟨_, rfl, ht⟩

theorem AlikeOutcome.of_fault {f : Fault} {r : Result} (h : AlikeOutcome (.fault f) r) : r = .fault f := by
  cases h
  rfl

/-- Settles O55: related states go the same way under every instruction but PHP and BRK. -/
theorem inertFlagsInfluenceNothing : Obligations.InertFlagsInfluenceNothing := by
  intro i s p' hphp hbrk hp
  have halike : AlikeOutcome (exec i s) (exec i { s with p := p' }) :=
    exec_alike ⟨p', hp, rfl⟩ hphp hbrk
  refine ⟨fun t ht => ?_, fun f hf => ?_⟩
  · rw [ht] at halike
    obtain ⟨u, hu, q, hq, rfl⟩ := halike.of_next
    exact ⟨_, hu, hq, rfl⟩
  · rw [hf] at halike
    exact halike.of_fault

end Sys2Proof.Machine
end

section
/-! One byte of one store written (R27 to R41): it reads back, and nothing else of the machine changes.  The rules of
the bus accesses, one for each region of R51. -/

namespace Sys2Proof.Machine

/-- A store replaced. -/
def State.setStore (s : State) : Store → Memory → State
  | .stack, m => s.setStack m
  | .wram, m => s.setWram m
  | .cram, m => s.setCram m
  | .prg, m => s.setPrg m
  | .chr, m => { s with chr := m }
  | .oam, m => s.setOam m
  | .vram, m => s.setVram m
  | .pal, m => s.setPal m

/-- One byte of a store replaced. -/
def State.writeByte (s : State) (st : Store) (i : Nat) (v : Byte) : State :=
  s.setStore st (Memory.write (s.store st) i v)

/-- Nothing but bytes of the stores changes. -/
def KeepsAllButBytes (s t : State) : Prop :=
  KeepsRegs [] s t ∧ KeepsFlags [] s t ∧ KeepsPeriph s t ∧ t.w = s.w ∧ t.pc = s.pc ∧ KeepsRun s t

section
variable (s : State) (st : Store)

theorem store_setStore (m : Memory) (st' : Store) :
    (s.setStore st m).store st' = if st' = st then m else s.store st' := by
  cases st <;> cases st' <;> rfl

theorem byte_setStore_other (m : Memory) {st' : Store} (i : Nat) (h : st' ≠ st) :
    (s.setStore st m).byte st' i = s.byte st' i := by
  rw [State.byte, store_setStore, if_neg h, State.byte]

theorem setStore_keeps (m : Memory) : KeepsAllButBytes s (s.setStore st m) := by
  cases st <;>
    exact ⟨fun r _ => by cases r <;> rfl, fun _ _ => rfl, ⟨rfl, rfl, rfl, rfl, rfl, rfl⟩, rfl, rfl, rfl, rfl, rfl, rfl, rfl⟩

variable (i : Nat) (v : Byte)

@[simp] theorem byte_writeByte_same : (s.writeByte st i v).byte st i = v := by
  rw [State.byte, State.writeByte, store_setStore, if_pos rfl, Memory.read_write_same]

theorem writeByte_keepsBytesBut : KeepsBytesBut st i s (s.writeByte st i v) := by
  intro st' i' h
  by_cases hst : st' = st
  · subst hst
    have hi : i' ≠ i := fun hi => h ⟨rfl, hi⟩
    rw [State.byte, State.writeByte, store_setStore, if_pos rfl, Memory.read_write_other _ _ hi, State.byte]
  · exact byte_setStore_other s st _ i' hst

theorem writeByte_keeps : KeepsAllButBytes s (s.writeByte st i v) := setStore_keeps s st _

end

/-! ### The accesses by region (R51) -/

section
variable {a : Word} (v : Byte) (s : State)

theorem busWrite_wram (h : a.toNat ≤ 0x1FFF) :
    busWrite a v s = .ok (s.writeByte .wram (a.toNat % 0x0800) v) := by
  rw [busWrite, regionOf_wram h]
  rfl

theorem busRead_periph (h1 : 0x2000 ≤ a.toNat) (h2 : a.toNat ≤ 0x3FFF) :
    busRead a s = periphRead (a.toNat % 8) s := by
  rw [busRead, regionOf_periph h1 h2]

theorem busWrite_periph (h1 : 0x2000 ≤ a.toNat) (h2 : a.toNat ≤ 0x3FFF) :
    busWrite a v s = periphWrite (a.toNat % 8) v s := by
  rw [busWrite, regionOf_periph h1 h2]

/-- The stub region reads 0, the bulk-copy register among it. -/
theorem busRead_stub (h1 : 0x4000 ≤ a.toNat) (h2 : a.toNat ≤ 0x4018) : busRead a s = .ok (0, s) := by
  by_cases h3 : a.toNat = 0x4014
  · rw [busRead, regionOf_bulkCopy h3]
  · rw [busRead, regionOf_stub h1 h2 h3]

theorem busWrite_stub (h1 : 0x4000 ≤ a.toNat) (h2 : a.toNat ≤ 0x4018) (h3 : a.toNat ≠ 0x4014) :
    busWrite a v s = .ok s := by
  rw [busWrite, regionOf_stub h1 h2 h3]

theorem busWrite_bulkCopy (h : a.toNat = 0x4014) : busWrite a v s = bulkCopy v (List.range 256) s := by
  rw [busWrite, regionOf_bulkCopy h]
  rfl

theorem busRead_unmapped (h1 : 0x4019 ≤ a.toNat) (h2 : a.toNat ≤ 0x5FFF) :
    busRead a s = .error (.unmappedAddress a .read) := by
  rw [busRead, regionOf_unmapped h1 h2]

theorem busWrite_unmapped (h1 : 0x4019 ≤ a.toNat) (h2 : a.toNat ≤ 0x5FFF) :
    busWrite a v s = .error (.unmappedAddress a .write) := by
  rw [busWrite, regionOf_unmapped h1 h2]

theorem busRead_cram (h1 : 0x6000 ≤ a.toNat) (h2 : a.toNat ≤ 0x7FFF) :
    busRead a s = .ok (s.byte .cram (a.toNat - 0x6000), s) := by
  rw [busRead, regionOf_cram h1 h2]
  rfl

theorem busWrite_cram (h1 : 0x6000 ≤ a.toNat) (h2 : a.toNat ≤ 0x7FFF) :
    busWrite a v s = .ok (s.writeByte .cram (a.toNat - 0x6000) v) := by
  rw [busWrite, regionOf_cram h1 h2]
  rfl

theorem busWrite_rom (h : 0x8000 ≤ a.toNat) : busWrite a v s = .error (.readOnlyViolation .bus a) := by
  rw [busWrite, regionOf_rom h]

end

/-- The addresses of the copies of peripheral index 2 (R53). -/
theorem regionOf_eq_periph_two_iff {a : Word} :
    regionOf a = .periph 2 ↔ ∃ k, k < 1024 ∧ a.toNat = 0x2002 + 8 * k := by
  constructor
  · intro h
    obtain ⟨_, hr⟩ | ⟨h1, h2, hr⟩ | ⟨_, hr⟩ | ⟨_, _, _, hr⟩ | ⟨_, _, hr⟩ | ⟨_, _, hr⟩ | ⟨_, hr⟩ :=
      regionOf_cases a <;> simp only [hr, reduceCtorEq, Region.periph.injEq] at h
    exact ⟨(a.toNat - 0x2002) / 8, by omega, by omega⟩
  · rintro ⟨k, hk, ha⟩
    rw [regionOf_periph (by omega) (by omega), show a.toNat % 8 = 2 by omega]

/-! ### The faults of an access -/

section
variable {f : Fault} {s : State}

theorem videoRead_error {va : Word} (h : videoRead va s = .error f) : f = .unmappedVideoAddress va .read := by
  unfold videoRead at h
  simp only at h
  split at h
  · split at h <;> cases h
    rfl
  · split at h
    · cases h
    · split at h <;> cases h
      rfl

/-- A register read faults with the index, or through index 7 with the video address (R71, R82, R84). -/
theorem periphRead_error {i : Nat} (h : periphRead i s = .error f) :
    f = .unsupportedRegisterAccess i .read ∨ f = .unmappedVideoAddress s.vaddr .read := by
  unfold periphRead at h
  split at h
  · cases h
  · split at h
    · cases h
    · split at h
      · split at h <;> cases h
        exact .inr (videoRead_error ‹_›)
      · cases h
        exact .inl rfl

/-- A bus read faults as unmapped at an unmapped address, else as the register read there does. -/
theorem busRead_error {a : Word} (h : busRead a s = .error f) :
    (0x4019 ≤ a.toNat ∧ a.toNat ≤ 0x5FFF ∧ f = .unmappedAddress a .read) ∨
    (∃ i, f = .unsupportedRegisterAccess i .read) ∨ f = .unmappedVideoAddress s.vaddr .read := by
  obtain ⟨_, hr⟩ | ⟨_, _, hr⟩ | ⟨_, hr⟩ | ⟨_, _, _, hr⟩ | ⟨h1, h2, hr⟩ | ⟨_, _, hr⟩ | ⟨_, hr⟩ :=
    regionOf_cases a <;> simp only [busRead, hr, reduceCtorEq] at h
  · exact .inr ((periphRead_error h).imp_left fun hf => ⟨_, hf⟩)
  · cases h
    exact .inl ⟨h1, h2, rfl⟩

/-- A bulk copy faults as one of its bus reads does. -/
theorem bulkCopy_error {v : Byte} {is : List Nat} (h : bulkCopy v is s = .error f) :
    ∃ a s1, busRead a s1 = .error f := by
  induction is generalizing s with
  | nil => cases h
  | cons i rest ih =>
    rw [bulkCopy] at h
    cases hr : busRead (copySource v i) s with
    | error g =>
      rw [hr] at h
      cases h
      exact ⟨_, _, hr⟩
    | ok p =>
      rw [hr] at h
      exact ih h

theorem videoWrite_error {va : Word} {v : Byte} (h : videoWrite va v s = .error f) :
    f = .readOnlyViolation .video va ∨ f = .unmappedVideoAddress va .write := by
  unfold videoWrite at h
  simp only at h
  split at h
  · cases h
    exact .inl rfl
  · split at h
    · cases h
    · split at h <;> cases h
      exact .inr rfl

/-- A register write faults as its own index or video address says, or as a read of a bulk copy (R75, R83 to R85). -/
theorem periphWrite_error {i : Nat} {v : Byte} (h : periphWrite i v s = .error f) :
    f = .readOnlyViolation .peripheral 2 ∨ f = .unsupportedRegisterAccess i .write ∨
    f = .readOnlyViolation .video s.vaddr ∨ f = .unmappedVideoAddress s.vaddr .write ∨
    ∃ a s1, busRead a s1 = .error f := by
  unfold periphWrite at h
  split at h
  · cases h
  split at h
  · cases h
  split at h
  · cases h
    exact .inl rfl
  split at h
  · cases h
  split at h
  · cases h
  split at h
  · cases h
  split at h
  · cases h
  split at h
  · exact .inr (.inr ((videoWrite_error h).imp_right .inl))
  split at h
  · exact .inr (.inr (.inr (.inr (bulkCopy_error h))))
  · cases h
    exact .inr (.inl rfl)

/-- No register write faults as the bus itself does on a write: neither the register faults nor those of a bulk copy's
reads are of that kind. -/
theorem periphWrite_error_ne {i : Nat} {v : Byte} (h : periphWrite i v s = .error f) (a : Word) :
    f ≠ .readOnlyViolation .bus a ∧ f ≠ .unmappedAddress a .write := by
  obtain rfl | rfl | rfl | rfl | ⟨b, s1, hr⟩ := periphWrite_error h
  · exact ⟨nofun, nofun⟩
  · exact ⟨nofun, nofun⟩
  · exact ⟨nofun, nofun⟩
  · exact ⟨nofun, nofun⟩
  · obtain ⟨_, _, rfl⟩ | ⟨i, rfl⟩ | rfl := busRead_error hr <;> exact ⟨nofun, nofun⟩

/-- A bus write faults as read-only in ROM, as unmapped at an unmapped address, else as the register write there does. -/
theorem busWrite_error {a : Word} {v : Byte} (h : busWrite a v s = .error f) :
    (0x8000 ≤ a.toNat ∧ f = .readOnlyViolation .bus a) ∨
    (0x4019 ≤ a.toNat ∧ a.toNat ≤ 0x5FFF ∧ f = .unmappedAddress a .write) ∨
    ∃ i, periphWrite i v s = .error f := by
  obtain ⟨_, hr⟩ | ⟨_, _, hr⟩ | ⟨_, hr⟩ | ⟨_, _, _, hr⟩ | ⟨h1, h2, hr⟩ | ⟨_, _, hr⟩ | ⟨h1, hr⟩ :=
    regionOf_cases a <;> simp only [busWrite, hr, reduceCtorEq] at h
  · exact .inr (.inr ⟨_, h⟩)
  · exact .inr (.inr ⟨_, h⟩)
  · cases h
    exact .inr (.inl ⟨h1, h2, rfl⟩)
  · cases h
    exact .inl ⟨h1, rfl⟩

end

/-! ### The bus obligations -/

/-- The address of a copy of a work memory byte, as a number (R52). -/
theorem wramCopy_toNat {a j : Nat} (ha : a < 0x0800) (hj : j < 4) :
    (BitVec.ofNat 16 (a + 0x0800 * j)).toNat = a + 0x0800 * j := by
  rw [BitVec.toNat_ofNat]
  omega

/-- Settles O13: every copy of a work memory byte, and every cartridge RAM address, leads to one byte of one store. -/
theorem writableMemoryReadsBack : Obligations.WritableMemoryReadsBack := by
  refine ⟨fun a j k v s ha hj hk => ?_, fun a v s h1 h2 => ?_⟩
  · have hmod : ∀ n, (a + 0x0800 * n) % 0x0800 = a := fun n => by omega
    refine ⟨s.writeByte .wram a v, ?_, ?_, byte_writeByte_same .., writeByte_keepsBytesBut _ _ _ _, writeByte_keeps ..⟩
    · rw [busWrite_wram v s (by rw [wramCopy_toNat ha hj]; omega), wramCopy_toNat ha hj, hmod]
    · rw [busRead_wram _ (by rw [wramCopy_toNat ha hk]; omega), wramCopy_toNat ha hk, hmod]
      exact congrArg (fun b => Except.ok (b, s.writeByte .wram a v)) (byte_writeByte_same s .wram a v)
  · refine ⟨busRead_cram s h1 h2, s.writeByte .cram (a.toNat - 0x6000) v, busWrite_cram v s h1 h2, ?_,
      writeByte_keepsBytesBut _ _ _ _, writeByte_keeps ..⟩
    rw [busRead_cram _ h1 h2, byte_writeByte_same]

/-- Settles O14: a read of ROM is the read of program memory at the offset modulo its size. -/
theorem romReadsAreMirrored : Obligations.RomReadsAreMirrored := by
  refine fun a s ha => ⟨busRead_rom s ha, fun hsize hlow => ?_⟩
  have hup : (a + 0x4000).toNat = a.toNat + 0x4000 :=
    BitVec.toNat_add_of_lt (show a.toNat + 0x4000 < 2 ^ 16 by omega)
  have hmirror : (a.toNat + 0x4000 - 0x8000) % 16384 = (a.toNat - 0x8000) % 16384 := by omega
  rw [busRead_rom s ha, busRead_rom s (by omega), hup, hsize, PrgSize.bytes, hmirror]

/-- Settles O15: the two ranges fault so, and every other fault of an access is of another kind. -/
theorem unmappedAndReadOnlyAddressesFault : Obligations.UnmappedAndReadOnlyAddressesFault := by
  refine fun a v s => ⟨⟨busWrite_rom v s, fun h => ?_⟩, ⟨fun h => busRead_unmapped s h.1 h.2, fun h => ?_⟩,
    ⟨fun h => busWrite_unmapped v s h.1 h.2, fun h => ?_⟩⟩
  · obtain ⟨ha, _⟩ | ⟨_, _, hf⟩ | ⟨i, hi⟩ := busWrite_error h
    · exact ha
    · cases hf
    · exact absurd rfl (periphWrite_error_ne hi a).1
  · obtain ⟨h1, h2, _⟩ | ⟨i, hf⟩ | hf := busRead_error h
    · exact ⟨h1, h2⟩
    · cases hf
    · cases hf
  · obtain ⟨_, hf⟩ | ⟨h1, h2, _⟩ | ⟨i, hi⟩ := busWrite_error h
    · cases hf
    · exact ⟨h1, h2⟩
    · exact absurd rfl (periphWrite_error_ne hi a).2

/-- Settles O16: the accesses of the register window and of the stub region. -/
theorem windowRepeatsAndStubIgnoresWrites : Obligations.WindowRepeatsAndStubIgnoresWrites := by
  refine fun a v s => ⟨fun h1 h2 => ?_, fun h1 h2 => ⟨busRead_stub s h1 h2, busWrite_stub v s h1 h2⟩⟩
  have hindex : (a.toNat - 0x2000) % 8 = a.toNat % 8 := by omega
  rw [hindex]
  exact ⟨busRead_periph s h1 h2, busWrite_periph v s h1 h2, rfl⟩

/-- Settles O17: a read that answers changes the toggle at most, and only where it leads to peripheral index 2. -/
theorem busReadClearsOnlyTheToggle : Obligations.BusReadClearsOnlyTheToggle := by
  refine fun a v s t h => ⟨fun hk => ?_, fun hk => ?_⟩
  · rw [busRead, regionOf_eq_periph_two_iff.mpr hk] at h
    cases h
    exact ⟨rfl, rfl⟩
  · exact (busRead_ok h).resolve_right fun ⟨hr, _⟩ => hk (regionOf_eq_periph_two_iff.mp hr)

/-- The address after `a`, as a number modulo 65536 (R62). -/
theorem add_one_eq_ofNat (a : Word) : a + 1 = BitVec.ofNat 16 ((a.toNat + 1) % 65536) := by
  apply BitVec.eq_of_toNat_eq
  simp

theorem loByte_eq_ofNat (w : Word) : loByte w = BitVec.ofNat 8 (w.toNat % 256) := by
  apply BitVec.eq_of_toNat_eq
  rw [loByte_toNat, BitVec.toNat_ofNat, Nat.mod_mod]

theorem hiByte_eq_ofNat (w : Word) : hiByte w = BitVec.ofNat 8 (w.toNat / 256) := by
  apply BitVec.eq_of_toNat_eq
  rw [hiByte_toNat, BitVec.toNat_ofNat]
  omega

/-- Settles O18: the two accesses of `memRead16` and `memWrite16`, with the second address and the two bytes as numbers. -/
theorem sixteenBitAccessIsTwoBytes : Obligations.SixteenBitAccessIsTwoBytes := by
  refine fun a s => ⟨fun lo hi s1 s2 hlo hhi => ⟨mkWord hi lo, ?_, mkWord_toNat hi lo⟩, fun f hlo => ?_,
    fun v s1 s2 hlo hhi => ?_, fun v f hlo => ?_⟩
  · rw [memRead16, hlo, andThen_ok, add_one_eq_ofNat, hhi, andThen_ok]
  · rw [memRead16, hlo, andThen_error]
  · rw [memWrite16, loByte_eq_ofNat, hlo, add_one_eq_ofNat, hiByte_eq_ofNat]
    exact hhi
  · rw [memWrite16, loByte_eq_ofNat, hlo]

end Sys2Proof.Machine
end

section
/-! The peripheral register file (20_memory.md section 5): what a read and a write of each index answer. -/

namespace Sys2Proof.Machine

/-! ### Video memory (R82, R83) -/

section
variable {va : Word} (v : Byte) (s : State)

/-- Graphics memory ends at 0x1FFF at the latest (R8, R294). -/
theorem ChrSize.bytes_le (c : ChrSize) : c.bytes ≤ 0x2000 := by cases c <;> decide

theorem videoRead_chr (h : va.toNat < s.chrSize.bytes) : videoRead va s = .ok (s.byte .chr va.toNat) := by
  have hc := s.chrSize.bytes_le
  rw [videoRead, if_pos (by omega), if_pos h]
  rfl

theorem videoRead_vram (h1 : 0x2000 ≤ va.toNat) (h2 : va.toNat ≤ 0x2FFF) :
    videoRead va s = .ok (s.byte .vram ((va.toNat - 0x2000) % 2048)) := by
  rw [videoRead, Config.vramTop, if_neg (by omega), if_pos h2]
  rfl

theorem videoRead_pal (h1 : 0x3F00 ≤ va.toNat) (h2 : va.toNat ≤ 0x3FFF) :
    videoRead va s = .ok (s.byte .pal (va.toNat % 32)) := by
  rw [videoRead, Config.vramTop, if_neg (by omega), if_neg (by omega), if_pos ⟨h1, h2⟩]
  rfl

theorem videoRead_unmapped (h : ¬ VideoReadable va s) : videoRead va s = .error (.unmappedVideoAddress va .read) := by
  simp only [VideoReadable, not_or] at h
  obtain ⟨hchr, hvram, hpal⟩ := h
  rw [videoRead]
  by_cases hlow : va.toNat ≤ 0x1FFF
  · rw [if_pos hlow, if_neg hchr]
  · rw [if_neg hlow, Config.vramTop, if_neg (by omega), if_neg hpal]

theorem videoWrite_chr (h : va.toNat ≤ 0x1FFF) : videoWrite va v s = .error (.readOnlyViolation .video va) := by
  rw [videoWrite, if_pos h]

theorem videoWrite_vram (h1 : 0x2000 ≤ va.toNat) (h2 : va.toNat ≤ 0x2FFF) :
    videoWrite va v s = .ok (s.writeByte .vram ((va.toNat - 0x2000) % 2048) v) := by
  rw [videoWrite, Config.vramTop, if_neg (by omega), if_pos h2]
  rfl

theorem videoWrite_pal (h1 : 0x3F00 ≤ va.toNat) (h2 : va.toNat ≤ 0x3FFF) :
    videoWrite va v s = .ok (s.writeByte .pal (va.toNat % 32) v) := by
  rw [videoWrite, Config.vramTop, if_neg (by omega), if_neg (by omega), if_pos ⟨h1, h2⟩]
  rfl

theorem videoWrite_unmapped (h1 : 0x2000 ≤ va.toNat) (h2 : ¬ VideoWritable va) :
    videoWrite va v s = .error (.unmappedVideoAddress va .write) := by
  simp only [VideoWritable, not_or] at h2
  obtain ⟨hvram, hpal⟩ := h2
  rw [videoWrite, Config.vramTop, if_neg (by omega), if_neg (by omega), if_neg hpal]

end

/-! ### The indices -/

section
variable (v : Byte) (s : State)

@[simp] theorem byte_setOamAddr (st : Store) (i : Nat) : (s.setOamAddr v).byte st i = s.byte st i := by
  cases st <;> rfl

/-- Index 4 reads without moving (R78). -/
theorem periphRead_four : periphRead 4 s = .ok (s.byte .oam s.oamAddr.toNat, s) := rfl

/-- Index 4 stores, then moves on (R79). -/
theorem periphWrite_four : periphWrite 4 v s =
    .ok ((s.writeByte .oam s.oamAddr.toNat v).setOamAddr (s.oamAddr + 1)) := rfl

/-- Index 5, by the toggle (R80). -/
theorem periphWrite_five : periphWrite 5 v s =
    .ok ((if s.w then s.setScrollY v else s.setScrollX v).setW (!s.w)) := rfl

/-- Index 6, by the toggle (R81). -/
theorem periphWrite_six : periphWrite 6 v s =
    .ok ((s.setVaddr (if s.w then mkWord (hiByte s.vaddr) v else mkWord v (loByte s.vaddr))).setW (!s.w)) := rfl

theorem periphRead_seven_ok {s : State} {b : Byte} (h : videoRead s.vaddr s = .ok b) :
    periphRead 7 s = .ok (b, s) := by
  simp [periphRead, h]

theorem periphRead_seven_error {s : State} {f : Fault} (h : videoRead s.vaddr s = .error f) :
    periphRead 7 s = .error f := by
  simp [periphRead, h]

theorem periphWrite_seven : periphWrite 7 v s = videoWrite s.vaddr v s := rfl

end

/-! ### The obligations -/

/-- Settles O25: the ranges of a video read. -/
theorem videoReadByRange : Obligations.VideoReadByRange := fun s =>
  ⟨fun h => periphRead_seven_ok (videoRead_chr s h), fun h1 h2 => periphRead_seven_ok (videoRead_vram s h1 h2),
    fun h1 h2 => periphRead_seven_ok (videoRead_pal s h1 h2), fun h => periphRead_seven_error (videoRead_unmapped s h)⟩

/-- Settles O26: the ranges of a video write; in the writable ones it replaces the byte that a read answers. -/
theorem videoWriteByRange : Obligations.VideoWriteByRange := by
  refine fun v s => ⟨videoWrite_chr v s, fun h => ?_, videoWrite_unmapped v s⟩
  obtain ⟨h1, h2⟩ | ⟨h1, h2⟩ := h
  · refine ⟨_, .vram, _, videoWrite_vram v s h1 h2, ?_, by rw [if_pos h2], byte_writeByte_same ..,
      writeByte_keepsBytesBut _ _ _ _, writeByte_keeps ..⟩
    refine periphRead_seven_ok ((videoRead_vram _ h1 h2).trans ?_)
    exact congrArg _ (byte_writeByte_same ..)
  · refine ⟨_, .pal, _, videoWrite_pal v s h1 h2, ?_, by rw [if_neg (by omega)], byte_writeByte_same ..,
      writeByte_keepsBytesBut _ _ _ _, writeByte_keeps ..⟩
    refine periphRead_seven_ok ((videoRead_pal _ h1 h2).trans ?_)
    exact congrArg _ (byte_writeByte_same ..)

/-- Settles O20: an index that is none of those listed meets no case of the register file. -/
theorem unlistedRegisterAccessFaults : Obligations.UnlistedRegisterAccessFaults := by
  refine fun i v s => ⟨fun ⟨h2, h4, h7⟩ => ?_, rfl, fun hi => ?_⟩
  · rw [periphRead, if_neg h2, if_neg h4, if_neg h7]
  · have hne : ∀ k, k ≤ 8 → i ≠ k := fun k hk => by omega
    simp [periphWrite, hne]

/-- Settles O21: the write of index 6 that follows finds the toggle cleared. -/
theorem statusReadResetsTheToggle : Obligations.StatusReadResetsTheToggle := by
  refine fun s v => ⟨_, _, rfl, rfl, rfl, ?_, rfl, rfl⟩
  rw [wordOf, ← loByte_eq_ofNat, ← mkWord_toNat]
  rfl

/-- Settles O22: the raw writes by definition, the scroll write by the toggle. -/
theorem rawAndScrollWritesStoreTheByte : Obligations.RawAndScrollWritesStoreTheByte := by
  refine fun v s => ⟨rfl, rfl, rfl, fun hw => ?_, fun hw => ?_⟩ <;> rw [periphWrite_five, hw] <;> rfl

/-- Settles O23: a write of the port replaces one byte of OAM, then the index. -/
theorem oamDataPortReadsAndAdvances : Obligations.OamDataPortReadsAndAdvances := by
  refine fun v s => ⟨periphRead_four s, _, periphWrite_four v s, ?_⟩
  obtain ⟨hregs, hflags, ⟨hctrl, hmask, -, hscrollX, hscrollY, hvaddr⟩, hw, hpc, hrun⟩ :=
    writeByte_keeps s .oam s.oamAddr.toNat v
  refine ⟨byte_writeByte_same s .oam _ v, BitVec.toNat_add s.oamAddr 1, fun st i h => ?_, fun r hr => ?_, hflags, hpc, hrun, hw,
    hctrl, hmask, hscrollX, hscrollY, hvaddr⟩
  · rw [byte_setOamAddr, writeByte_keepsBytesBut _ _ _ _ st i h]
  · rw [State.setOamAddr_reg, hregs r hr]

/-- Settles O24: the word of the byte written and the byte kept. -/
theorem addressWritesPairUp : Obligations.AddressWritesPairUp := by
  refine fun v s => ⟨_, periphWrite_six v s, rfl, ?_, rfl⟩
  rw [State.setW_vaddr, State.setVaddr_vaddr]
  cases s.w
  · rw [if_neg Bool.false_ne_true, if_neg Bool.false_ne_true, mkWord_toNat, loByte_toNat]
    omega
  · rw [if_pos rfl, if_pos rfl, mkWord_toNat, hiByte_toNat]
    omega

end Sys2Proof.Machine
end

section
/-! The bulk copy through 0x4014 (R59, R85): while the reads of a page answer, it fills OAM and changes nothing else;
the first read that faults ends it. -/

namespace Sys2Proof.Machine

/-- The bus address `a` reads as `b` in the state whatever OAM holds, and the read changes nothing. -/
def ReadsAs (s : State) (a : Word) (b : Byte) : Prop := ∀ m, busRead a (s.setOam m) = .ok (b, s.setOam m)

/-- Work memory, cartridge RAM and ROM do not read OAM. -/
theorem readsAs_of_storage {a : Word} (s : State) (h : a.toNat ≤ 0x1FFF ∨ 0x6000 ≤ a.toNat) : ∃ b, ReadsAs s a b := by
  obtain h | h := h
  · exact ⟨s.byte .wram (a.toNat % 0x0800), fun m => busRead_wram (s.setOam m) h⟩
  · by_cases hc : a.toNat ≤ 0x7FFF
    · exact ⟨s.byte .cram (a.toNat - 0x6000), fun m => busRead_cram (s.setOam m) h hc⟩
    · exact ⟨s.byte .prg ((a.toNat - 0x8000) % s.prgSize.bytes), fun m => busRead_rom (s.setOam m) (by omega)⟩

section
variable {s : State} {a : Word} {b : Byte} (h : ReadsAs s a b)
include h

theorem ReadsAs.read : busRead a s = .ok (b, s) := h s.oam

/-- That OAM is written meanwhile does not matter. -/
theorem ReadsAs.setOam (m : Memory) : ReadsAs (s.setOam m) a b := h

end

/-- The address of a copied byte, as a number. -/
theorem copySource_eq (v : Byte) (i : Nat) : copySource v i = BitVec.ofNat 16 (v.toNat * 256 + i) := by
  have hv := v.isLt
  apply BitVec.eq_of_toNat_eq
  rw [copySource, BitVec.toNat_add, BitVec.toNat_shiftLeft, zext_toNat, Nat.shiftLeft_eq]
  simp only [BitVec.toNat_ofNat]
  omega

theorem copySource_toNat (v : Byte) {i : Nat} (hi : i < 256) : (copySource v i).toNat = v.toNat * 256 + i := by
  have hv := v.isLt
  rw [copySource_eq, BitVec.toNat_ofNat]
  omega

section
variable {v : Byte} {s : State}

/-- A bulk copy whose reads answer fills OAM byte by byte. -/
theorem bulkCopy_of_readsAs {b : Nat → Byte} {is : List Nat} (h : ∀ i ∈ is, ReadsAs s (copySource v i) (b i)) :
    ∃ m, bulkCopy v is s = .ok (s.setOam m) ∧
      ∀ j, Memory.read m j = if j ∈ is then b j else Memory.read s.oam j := by
  induction is generalizing s with
  | nil => exact ⟨s.oam, rfl, fun j => by rw [if_neg List.not_mem_nil]⟩
  | cons i rest ih =>
    obtain ⟨m, hm, hread⟩ := ih (s := s.setOam (Memory.write s.oam i (b i)))
      fun j hj => (h j (List.mem_cons_of_mem i hj)).setOam _
    refine ⟨m, ?_, fun j => ?_⟩
    · rw [bulkCopy, (h i List.mem_cons_self).read, andThen_ok]
      exact hm
    · rw [hread j, State.setOam_oam, Memory.read_write]
      by_cases hrest : j ∈ rest
      · rw [if_pos hrest, if_pos (List.mem_cons_of_mem i hrest)]
      · by_cases hj : j = i
        · rw [if_neg hrest, if_pos hj, if_pos (hj ▸ List.mem_cons_self), hj]
        · rw [if_neg hrest, if_neg hj, if_neg (List.not_mem_cons_of_ne_of_not_mem hj hrest)]

/-- A bulk copy goes on after indices whose reads answered. -/
theorem bulkCopy_append {is js : List Nat} {t : State} (h : bulkCopy v is s = .ok t) :
    bulkCopy v (is ++ js) s = bulkCopy v js t := by
  induction is generalizing s with
  | nil => cases h; rfl
  | cons i rest ih =>
    rw [bulkCopy, andThen_eq_ok] at h
    obtain ⟨b, s1, hb, hrest⟩ := h
    rw [List.cons_append, bulkCopy, hb, andThen_ok]
    exact ih hrest

/-- A bulk copy faults as its first read that does, when all reads before it answer. -/
theorem bulkCopy_fault {f : Fault} {b : Nat → Byte} {n size : Nat} (hn : n < size)
    (hok : ∀ i < n, ReadsAs s (copySource v i) (b i)) (hf : ∀ m, busRead (copySource v n) (s.setOam m) = .error f) :
    bulkCopy v (List.range size) s = .error f := by
  obtain ⟨m, hm, -⟩ := bulkCopy_of_readsAs (v := v) (is := List.range n) fun i hi => hok i (List.mem_range.mp hi)
  obtain ⟨k, rfl⟩ := Nat.exists_eq_add_of_lt hn
  rw [Nat.add_assoc, List.range_add, bulkCopy_append hm, List.range_succ_eq_map, List.map_cons, Nat.add_zero, bulkCopy,
    hf, andThen_error]

/-- A bulk copy whose very first read faults. -/
theorem bulkCopy_fault_first {f : Fault} (hf : ∀ m, busRead (copySource v 0) (s.setOam m) = .error f) :
    bulkCopy v (List.range 256) s = .error f :=
  bulkCopy_fault (b := fun _ => 0) (n := 0) (by omega) (fun i hi => absurd hi (Nat.not_lt_zero i)) hf

/-- A page of storage is copied whole. -/
theorem bulkCopy_copyable (s : State) (hv : Copyable v) : ∃ m, bulkCopy v (List.range 256) s = .ok (s.setOam m) ∧
    ∀ i < 256, ReadsAs s (copySource v i) (Memory.read m i) := by
  have hstorage : ∀ i, ∃ b, i < 256 → ReadsAs s (copySource v i) b := fun i => by
    by_cases hi : i < 256
    · have ha := copySource_toNat v hi
      obtain ⟨b, hb⟩ := readsAs_of_storage (a := copySource v i) s (by unfold Copyable at hv; omega)
      exact ⟨b, fun _ => hb⟩
    · exact ⟨0, fun h => absurd h hi⟩
  choose b hb using hstorage
  obtain ⟨m, hm, hread⟩ := bulkCopy_of_readsAs fun i hi => hb i (List.mem_range.mp hi)
  refine ⟨m, hm, fun i hi => ?_⟩
  rw [hread i, if_pos (List.mem_range.mpr hi)]
  exact hb i hi

end

/-- Settles O27: a page of storage is copied whole; of every other page, the first read that faults. -/
theorem bulkCopyFillsOam : Obligations.BulkCopyFillsOam := by
  intro v s
  rw [busWrite_bulkCopy v s rfl]
  have hfirst := copySource_toNat v (i := 0) (by omega)
  refine ⟨fun h => ?_, fun h1 h2 => ?_, fun h => ?_, fun h1 h2 => ?_⟩
  · obtain ⟨m, hm, hread⟩ := bulkCopy_copyable s h
    refine ⟨s.setOam m, hm, fun i hi => ?_, fun st i hst => byte_setStore_other s .oam m i hst, setStore_keeps s .oam m⟩
    rw [← copySource_eq]
    exact (hread i hi).read
  · refine bulkCopy_fault_first fun m => ?_
    rw [busRead_periph _ (by omega) (by omega), show (copySource v 0).toNat % 8 = 0 by omega]
    rfl
  · have hsource : ∀ i, i < 256 → (copySource v i).toNat = 0x4000 + i := fun i hi => by rw [copySource_toNat v hi, h]
    have hlast : copySource v 25 = 0x4019 := BitVec.eq_of_toNat_eq (hsource 25 (by omega))
    refine bulkCopy_fault (b := fun _ => 0) (n := 25) (by omega) (fun i hi m => ?_) fun m => ?_
    · have ha := hsource i (by omega)
      exact busRead_stub _ (by omega) (by omega)
    · rw [hlast]
      exact busRead_unmapped _ (by decide) (by decide)
  · refine bulkCopy_fault_first fun m => ?_
    rw [busRead_unmapped _ (by omega) (by omega), copySource_eq, Nat.add_zero]

end Sys2Proof.Machine
end

section
/-! What each instruction can touch outside the flags (10_state.md sections 1 and 3, R27, R222, R262): an instruction
that answers has one of six effects, and each effect leaves `PC`, the stack array, `SP` or memory as they were. -/

namespace Sys2Proof.Machine

/-- The state with `A`, `X`, `Y` and `P` of another. -/
def State.withData (s c : State) : State := { s with a := c.a, x := c.x, y := c.y, p := c.p }

/-- The state with the whole CPU of another: its registers, `PC` and the stack array. -/
def State.withCpu (s c : State) : State :=
  { s with a := c.a, x := c.x, y := c.y, sp := c.sp, p := c.p, pc := c.pc, stack := c.stack }

/-- Only `A`, `X`, `Y`, `P` change, and perhaps the toggle, which a read can clear. -/
def DataOnly (s t : State) : Prop := ∃ c w, (w = s.w ∨ w = false) ∧ t = (s.setW w).withData c

/-- Only the CPU changes, and perhaps the toggle, which a read can clear. -/
def CpuOnly (s t : State) : Prop := ∃ c w, (w = s.w ∨ w = false) ∧ t = (s.setW w).withCpu c

/-- `PC`, `SP` and the stack array stay. -/
structure KeepsControl (s t : State) : Prop where
  pc : t.pc = s.pc
  sp : t.sp = s.sp
  stack : t.stack = s.stack

/-- The effects of the instructions. -/
inductive Effect (s : State) : Instr → State → Prop where
  /-- No data write, no stack, no transfer of control. -/
  | data {i t} : DataOnly s t → Effect s i t
  /-- A data write on the bus. -/
  | write {i mode t} : BusWriter i mode → KeepsControl s t → Effect s i t
  /-- A jump or branch. -/
  | jump {i t} : ControlTransfer i → CpuOnly s t → t.sp = s.sp → t.stack = s.stack → Effect s i t
  /-- A push or pull of one register. -/
  | stack {i t} : StackUser i → CpuOnly s t → t.pc = s.pc → Effect s i t
  /-- A call, a return or the trap. -/
  | call {i t} : ControlTransfer i → StackUser i → CpuOnly s t → Effect s i t
  /-- TXS. -/
  | txs : Effect s .txs (s.setSp s.x)

/-! ### The two frames -/

namespace DataOnly

theorem refl (s : State) : DataOnly s s := ⟨s, s.w, .inl rfl, rfl⟩

variable {s t : State} (h : DataOnly s t)
include h

theorem trans {u : State} (k : DataOnly t u) : DataOnly s u := by
  obtain ⟨c, w, hw, rfl⟩ := h
  obtain ⟨c', w', hw', rfl⟩ := k
  refine ⟨c', w', ?_, rfl⟩
  obtain rfl | rfl := hw'
  · exact hw
  · exact .inr rfl

theorem setP (v : Byte) : DataOnly s (t.setP v) := by
  obtain ⟨c, w, hw, rfl⟩ := h
  exact ⟨c.setP v, w, hw, rfl⟩

theorem setReg {r : Reg} (hr : r ≠ .sp) (v : Byte) : DataOnly s (t.setReg r v) := by
  obtain ⟨c, w, hw, rfl⟩ := h
  cases r with
  | a => exact ⟨c.setA v, w, hw, rfl⟩
  | x => exact ⟨c.setX v, w, hw, rfl⟩
  | y => exact ⟨c.setY v, w, hw, rfl⟩
  | sp => exact absurd rfl hr

theorem keepsControl : KeepsControl s t := by
  obtain ⟨c, w, -, rfl⟩ := h
  exact ⟨rfl, rfl, rfl⟩

theorem cpuOnly : CpuOnly s t := by
  obtain ⟨c, w, hw, rfl⟩ := h
  exact ⟨s.withData c, w, hw, rfl⟩

end DataOnly

namespace CpuOnly

theorem refl (s : State) : CpuOnly s s := ⟨s, s.w, .inl rfl, rfl⟩

variable {s t : State} (h : CpuOnly s t)
include h

theorem setP (v : Byte) : CpuOnly s (t.setP v) := by
  obtain ⟨c, w, hw, rfl⟩ := h
  exact ⟨c.setP v, w, hw, rfl⟩

theorem setPc (v : Word) : CpuOnly s (t.setPc v) := by
  obtain ⟨c, w, hw, rfl⟩ := h
  exact ⟨c.setPc v, w, hw, rfl⟩

theorem setReg (r : Reg) (v : Byte) : CpuOnly s (t.setReg r v) := by
  obtain ⟨c, w, hw, rfl⟩ := h
  refine ⟨c.setReg r v, w, hw, ?_⟩
  cases r <;> rfl

theorem push (v : Byte) : CpuOnly s (push v t) := by
  obtain ⟨c, w, hw, rfl⟩ := h
  exact ⟨Machine.push v c, w, hw, rfl⟩

theorem byte (st : Store) (k : Nat) (hst : st ≠ .stack) : t.byte st k = s.byte st k := by
  obtain ⟨c, w, -, rfl⟩ := h
  cases st with
  | stack => exact absurd rfl hst
  | _ => rfl

theorem keepsPeriph : KeepsPeriph s t := by
  obtain ⟨c, w, -, rfl⟩ := h
  exact ⟨rfl, rfl, rfl, rfl, rfl, rfl⟩

theorem toggle : t.w = s.w ∨ t.w = false := by
  obtain ⟨c, w, hw, rfl⟩ := h
  exact hw

end CpuOnly

/-! ### The meanings -/

section
variable {s t : State}

theorem busRead_dataOnly {a : Word} {v : Byte} (h : busRead a s = .ok (v, t)) : DataOnly s t := by
  obtain rfl | ⟨-, rfl⟩ := busRead_ok h
  · exact .refl t
  · exact ⟨s, false, .inr rfl, rfl⟩

theorem source_read_dataOnly {src : Source} {v : Byte} (h : src.read s = .ok (v, t)) : DataOnly s t := by
  cases src with
  | imm b => cases h; exact .refl s
  | mem mode => exact busRead_dataOnly (read_mem mode s ▸ h)

theorem loadReg_dataOnly {r : Reg} {src : Source} (hr : r ≠ .sp) (h : loadReg r src s = .next t) : DataOnly s t := by
  obtain ⟨m, s1, h1, rfl⟩ := loadReg_next.mp h
  exact ((source_read_dataOnly h1).setReg hr m).setP _

theorem transferReg_dataOnly {q r : Reg} (hr : r ≠ .sp) (h : transferReg q r s = .next t) : DataOnly s t := by
  cases h
  exact ((DataOnly.refl s).setReg hr _).setP _

theorem addToA_dataOnly {adder : Byte → Byte → Bool → Sum} {src : Source} (h : addToA adder src s = .next t) :
    DataOnly s t := by
  obtain ⟨m, s1, h1, rfl⟩ := addToA_next.mp h
  exact ((source_read_dataOnly h1).setReg (r := .a) nofun _).setP _

theorem logicToA_dataOnly {f : Byte → Byte → Byte} {src : Source} (h : logicToA f src s = .next t) :
    DataOnly s t := by
  obtain ⟨m, s1, h1, rfl⟩ := logicToA_next.mp h
  exact ((source_read_dataOnly h1).setReg (r := .a) nofun _).setP _

theorem bitTest_dataOnly {mode : AddrMode} (h : bitTest mode s = .next t) : DataOnly s t := by
  obtain ⟨m, s1, h1, rfl⟩ := bitTest_next.mp h
  exact (source_read_dataOnly h1).setP _

theorem compareReg_dataOnly {r : Reg} {src : Source} (h : compareReg r src s = .next t) : DataOnly s t := by
  obtain ⟨m, s1, h1, rfl⟩ := compareReg_next.mp h
  exact (source_read_dataOnly h1).setP _

theorem stepReg_dataOnly {r : Reg} {d : Byte} (hr : r ≠ .sp) (h : stepReg r d s = .next t) : DataOnly s t := by
  cases h
  exact ((DataOnly.refl s).setReg hr _).setP _

theorem BusFrame.keepsControl (h : BusFrame s t) : KeepsControl s t := ⟨h.pc, h.sp, h.stack⟩

theorem modify_keepsControl {tg : Target} {value flags : Byte → State → Byte}
    (h : finish (tg.modify value flags s) = .next t) : KeepsControl s t := by
  obtain ⟨u, hu, ht⟩ := modify_frame (finish_eq_next.mp h)
  rw [ht]
  exact ⟨hu.pc, hu.sp, hu.stack⟩

theorem shift_effect {i : Instr} {op : Byte} {k : ShiftKind} {tg : Target} (hf : ShiftForm i op k tg)
    (h : shiftTarget k.fn tg s = .next t) : Effect s i t := by
  cases tg with
  | acc =>
    rw [shiftTarget_acc] at h
    cases h
    exact .data (((DataOnly.refl s).setReg (r := .a) nofun _).setP _)
  | mem mode => exact .write (.shift hf) (modify_keepsControl h)

theorem branch_effect {i : Instr} {op : Byte} {f : Flag} {v : Bool} {rel : Byte} (hf : BranchForm i op f v rel)
    (h : branchIf f v rel s = .next t) : Effect s i t := by
  obtain ⟨target, ht⟩ := branchIf_next f v rel s
  rw [ht] at h
  cases h
  exact .jump (.branch hf) ((CpuOnly.refl s).setPc target) rfl rfl

theorem jmpInd_effect {ptr : Word} (h : execJmpInd ptr s = .next t) : Effect s (.jmpInd ptr) t := by
  obtain ⟨target, u, ht, hu⟩ := andThen_eq_ok.mp (finish_eq_next.mp h)
  cases hu
  obtain ⟨lo, s1, h1, hrest⟩ := andThen_eq_ok.mp ht
  obtain ⟨hi, s2, h2, h3⟩ := andThen_eq_ok.mp hrest
  cases h3
  have hd : DataOnly s u := (busRead_dataOnly h1).trans (busRead_dataOnly h2)
  exact .jump (.jmpInd ptr) (hd.cpuOnly.setPc _) hd.keepsControl.sp hd.keepsControl.stack

theorem brk_effect (h : execBrk s = .next t) : Effect s .brk t := by
  rw [execBrk, takeBreak_eq] at h
  cases h
  exact .call .brk .brk ((((((CpuOnly.refl s).push _).push _).push _).setPc _).setP _)

/-- Loads, transfers and register increments never name `SP` as what they write. -/
theorem LoadForm.ne_sp {i : Instr} {op : Byte} {r : Reg} {src : Source} (h : LoadForm i op r src) : r ≠ .sp := by
  cases h <;> nofun

theorem TransferForm.ne_sp {i : Instr} {op : Byte} {q r : Reg} (h : TransferForm i op q r) : r ≠ .sp := by
  cases h <;> nofun

theorem StepRegForm.ne_sp {i : Instr} {op : Byte} {r : Reg} {d : Nat} (h : StepRegForm i op r d) : r ≠ .sp := by
  cases h <;> nofun

/-- An instruction that answers has one of the six effects. -/
theorem exec_effect {i : Instr} (h : exec i s = .next t) : Effect s i t := by
  have start := CpuOnly.refl s
  cases shape_of i with
  | load hf => exact .data (loadReg_dataOnly hf.ne_sp (exec_loadForm hf s ▸ h))
  | store hf => exact .write (.store hf) (storeReg_frame (exec_storeForm hf s ▸ h)).keepsControl
  | transfer hf => exact .data (transferReg_dataOnly hf.ne_sp (exec_transferForm hf s ▸ h))
  | adc hf => exact .data (addToA_dataOnly (exec_adcForm hf s ▸ h))
  | sbc hf => exact .data (addToA_dataOnly (exec_sbcForm hf s ▸ h))
  | and hf => exact .data (logicToA_dataOnly (exec_andForm hf s ▸ h))
  | ora hf => exact .data (logicToA_dataOnly (exec_oraForm hf s ▸ h))
  | eor hf => exact .data (logicToA_dataOnly (exec_eorForm hf s ▸ h))
  | bit hf => exact .data (bitTest_dataOnly (exec_bitForm hf s ▸ h))
  | compare hf => exact .data (compareReg_dataOnly (exec_compareForm hf s ▸ h))
  | inc hf => exact .write (.inc hf) (modify_keepsControl (exec_incForm hf s ▸ h))
  | dec hf => exact .write (.dec hf) (modify_keepsControl (exec_decForm hf s ▸ h))
  | stepReg hf => exact .data (stepReg_dataOnly hf.ne_sp (exec_stepRegForm hf s ▸ h))
  | shift hf => exact shift_effect hf (exec_shiftForm hf s ▸ h)
  | branch hf => exact branch_effect hf (exec_branchForm hf s ▸ h)
  | flagOp hf => rw [exec_flagForm hf] at h; cases h; exact .data ((DataOnly.refl s).setP _)
  | txs => cases h; exact .txs
  | jmpAbs addr => cases h; exact .jump (.jmpAbs addr) (start.setPc addr) rfl rfl
  | jmpInd ptr => exact jmpInd_effect h
  | jsr addr => cases h; exact .call (.jsr addr) (.jsr addr) (((start.push _).push _).setPc addr)
  | rts => cases h; exact .call .rts .rts ((start.setReg .sp _).setPc _)
  | pha => cases h; exact .stack .pha (start.push _) rfl
  | php => cases h; exact .stack .php (start.push _) rfl
  | pla => cases h; exact .stack .pla (((start.setReg .sp _).setReg .a _).setP _) rfl
  | plp => cases h; exact .stack .plp ((start.setReg .sp _).setP _) rfl
  | nop => cases h; exact .data (.refl s)
  | brk => exact brk_effect h
  | rti => cases h; exact .call .rti .rti (((start.setReg .sp _).setP _).setPc _)

/-! ### What an effect leaves alone -/

variable {i : Instr} (h : Effect s i t)
include h

theorem Effect.keepsPc (hi : ¬ ControlTransfer i) : t.pc = s.pc := by
  cases h with
  | data hd => exact hd.keepsControl.pc
  | write _ hk => exact hk.pc
  | jump hc => exact absurd hc hi
  | stack _ _ hpc => exact hpc
  | call hc => exact absurd hc hi
  | txs => rfl

theorem Effect.keepsStack (hi : ¬ StackUser i) : t.stack = s.stack := by
  cases h with
  | data hd => exact hd.keepsControl.stack
  | write _ hk => exact hk.stack
  | jump _ _ _ hstack => exact hstack
  | stack hs => exact absurd hs hi
  | call _ hs => exact absurd hs hi
  | txs => rfl

theorem Effect.keepsSp (hi : ¬ StackUser i) (htxs : i ≠ .txs) : t.sp = s.sp := by
  cases h with
  | data hd => exact hd.keepsControl.sp
  | write _ hk => exact hk.sp
  | jump _ _ hsp => exact hsp
  | stack hs => exact absurd hs hi
  | call _ hs => exact absurd hs hi
  | txs => exact absurd rfl htxs

theorem Effect.cpuOnly (hi : ¬ ∃ mode, BusWriter i mode) : CpuOnly s t := by
  cases h with
  | data hd => exact hd.cpuOnly
  | write hb => exact absurd ⟨_, hb⟩ hi
  | jump _ hc => exact hc
  | stack _ hc => exact hc
  | call _ _ hc => exact hc
  | txs => exact (CpuOnly.refl s).setReg .sp _

end

/-- Settles O56: what each effect leaves alone, and the frame of every instruction for `status`. -/
theorem onlyTheirOwnInstructionsTouch : Obligations.OnlyTheirOwnInstructionsTouch := by
  intro i s t h
  have he := exec_effect h
  have hstatus : t.status = s.status := (exec_frame h).run.1
  refine ⟨he.keepsPc, fun hi => ⟨fun k => congrArg (Memory.read · k) (he.keepsStack hi), he.keepsSp hi⟩, hstatus,
    fun hi => ?_⟩
  have hc := he.cpuOnly hi
  exact ⟨hc.byte, hc.keepsPeriph, hc.toggle⟩

end Sys2Proof.Machine
end

section
/-! The decoder and the encoder agree, and LEN, IMPLEMENTED and the opcode map are in lock-step (30_encoding.md, R100
to R108).  A row of the map makes an instruction from its operand bytes: every instruction has such a row, the row's
opcode byte and those operand bytes are its encoding, and decoding is finding that row. -/

namespace Sys2Proof

/-! ### What a row makes of its operand bytes -/

/-- The maker makes the instruction of exactly these operand bytes (R101, R102). -/
inductive Maker.Makes : Maker → Instr → List Byte → Prop where
  | none (i : Instr) : Makes (.none i) i []
  | byte (mk : Byte → Instr) (b : Byte) : Makes (.byte mk) (mk b) [b]
  | word (mk : Word → Instr) (w : Word) : Makes (.word mk) (mk w) [loByte w, hiByte w]

theorem Maker.Makes.length_eq {m : Maker} {i : Instr} {operands : List Byte} (h : m.Makes i operands) :
    operands.length = m.arity := by
  cases h <;> rfl

theorem Maker.exists_makes (m : Maker) : ∃ i operands, m.Makes i operands := by
  cases m with
  | none i => exact ⟨_, _, .none i⟩
  | byte mk => exact ⟨_, _, .byte mk 0⟩
  | word mk => exact ⟨_, _, .word mk 0⟩

/-- Building takes the operand bytes off the front and keeps every bit of them. -/
theorem Maker.build_eq_some {m : Maker} {i : Instr} {bs rest : List Byte} :
    m.build bs = some (i, rest) ↔ ∃ operands, m.Makes i operands ∧ bs = operands ++ rest := by
  constructor
  · intro h
    cases m with
    | none =>
      cases h
      exact ⟨_, .none _, rfl⟩
    | byte mk =>
      obtain _ | ⟨b, bs⟩ := bs <;> cases h
      exact ⟨_, .byte mk b, rfl⟩
    | word mk =>
      obtain _ | ⟨lo, _ | ⟨hi, bs⟩⟩ := bs <;> cases h
      exact ⟨_, .word mk (mkWord hi lo), by simp⟩
  · rintro ⟨operands, hm, rfl⟩
    cases hm with
    | none => rfl
    | byte mk b => rfl
    | word mk w => simp [Maker.build]

/-! ### The opcode map -/

/-- With one row for each opcode, the lookup of a row's opcode finds that row. -/
theorem findRow_of_mem {l : List Row} (hl : (l.map Row.op).Nodup) {r : Row} (hr : r ∈ l) :
    findRow r.op l = some r := by
  induction l with
  | nil => cases hr
  | cons q l ih =>
    obtain ⟨hq, hl⟩ := List.nodup_cons.mp hl
    rw [findRow]
    cases hr with
    | head => exact if_pos rfl
    | tail _ hr =>
      have hne : q.op ≠ r.op := fun h => hq (h ▸ List.mem_map_of_mem hr)
      rw [if_neg hne, ih hl hr]

/-- R104: the encoder writes the row's opcode and then the operand bytes. -/
theorem encode_of_row : ∀ r ∈ rows, ∀ i operands, r.maker.Makes i operands → encode i = r.op :: operands := by
  rw [← List.forall_iff_forall_mem]
  repeat' apply And.intro
  all_goals
    rintro _ _ ⟨⟩
    rfl

/-- Every instruction has a row: the rows stand in the order of the constructors. -/
theorem exists_row (i : Instr) : ∃ r ∈ rows, ∃ operands, r.maker.Makes i operands := by
  suffices h : ∃ r operands, rows[i.ctorIdx]? = some r ∧ r.maker.Makes i operands by
    obtain ⟨r, operands, hr, hm⟩ := h
    exact ⟨r, List.mem_of_getElem? hr, operands, hm⟩
  cases i with
  | tax | tay | txa | tya | tsx | txs | inx | iny | dex | dey | aslAcc | lsrAcc | rolAcc | rorAcc | rts | pha | php
  | pla | plp | clc | cld | cli | clv | sec | sed | sei | nop | brk | rti => exact ⟨_, _, rfl, .none _⟩
  | ldaAbs | ldaAbsx | ldaAbsy | ldxAbs | ldxAbsy | ldyAbs | ldyAbsx | staAbs | staAbsx | staAbsy | stxAbs | styAbs
  | adcAbs | adcAbsx | adcAbsy | sbcAbs | sbcAbsx | sbcAbsy | andAbs | andAbsx | andAbsy | oraAbs | oraAbsx | oraAbsy
  | eorAbs | eorAbsx | eorAbsy | bitAbs | cmpAbs | cmpAbsx | cmpAbsy | cpxAbs | cpyAbs | incAbs | incAbsx | decAbs
  | decAbsx | aslAbs | aslAbsx | lsrAbs | lsrAbsx | rolAbs | rolAbsx | rorAbs | rorAbsx | jmpAbs | jmpInd | jsr =>
    exact ⟨_, _, rfl, .word _ _⟩
  | _ => exact ⟨_, _, rfl, .byte _ _⟩

/-! ### The byte tables -/

/-- A list of bytes as a set: bit `b` is 1 when byte `b` is listed. -/
def byteSet (l : List Byte) : Nat := l.foldr (fun b m => 2 ^ b.toNat ||| m) 0

theorem testBit_byteSet (l : List Byte) (op : Byte) : (byteSet l).testBit op.toNat = true ↔ op ∈ l := by
  induction l with
  | nil => simp [byteSet]
  | cons b l ih =>
    have hcons : byteSet (b :: l) = 2 ^ b.toNat ||| byteSet l := rfl
    rw [hcons, Nat.testBit_or, Bool.or_eq_true, ih, Nat.testBit_two_pow, decide_eq_true_iff, BitVec.toNat_inj,
      List.mem_cons, eq_comm]

theorem not_mem_of_byteSet_disjoint {l l' : List Byte} (h : byteSet l &&& byteSet l' = 0) {op : Byte} (hop : op ∈ l) :
    op ∉ l' := by
  intro hop'
  have hbit : (byteSet l &&& byteSet l').testBit op.toNat = true := by
    rw [Nat.testBit_and, (testBit_byteSet l op).mpr hop, (testBit_byteSet l' op).mpr hop', Bool.and_self]
  simp [h] at hbit

/-- R103: no opcode byte has two rows. -/
theorem rows_op_nodup : (rows.map Row.op).Nodup := List.Nodup.of_map BitVec.toNat (by decide +kernel)

/-- R104, R108: a byte is the opcode of a row or unimplemented. -/
theorem row_or_unimplemented (op : Byte) : (∃ r ∈ rows, r.op = op) ∨ op ∈ Config.unimplemented := by
  have hall : byteSet (rows.map Row.op ++ Config.unimplemented) = 2 ^ 256 - 1 := by decide +kernel
  have hmem : op ∈ rows.map Row.op ++ Config.unimplemented := by
    rw [← testBit_byteSet, hall, Nat.testBit_two_pow_sub_one, decide_eq_true_iff]
    exact op.isLt
  rwa [List.mem_append, List.mem_map] at hmem

/-- R107: the implemented bytes are the opcodes of the rows. -/
theorem implemented_iff_row {op : Byte} : Config.implemented op = true ↔ ∃ r ∈ rows, r.op = op := by
  have himp : Config.implemented op = true ↔ op ∉ Config.unimplemented := by simp [Config.implemented]
  rw [himp]
  constructor
  · exact (row_or_unimplemented op).resolve_right
  · rintro ⟨r, hr, rfl⟩
    exact not_mem_of_byteSet_disjoint (l := rows.map Row.op) (by decide +kernel) (List.mem_map_of_mem hr)

theorem implemented_of_row {r : Row} (hr : r ∈ rows) : Config.implemented r.op = true :=
  implemented_iff_row.mpr ⟨r, hr, rfl⟩

/-- R105, R107: LEN counts a row's opcode and the operand bytes of its format. -/
theorem opLen_of_row : ∀ r ∈ rows, opLen r.op = some r.fmt.length ∧ r.fmt.length = r.maker.arity + 1 := by
  decide +kernel

/-- R105, R107: LEN has no entry for an unimplemented byte. -/
theorem opLen_of_unimplemented {op : Byte} (h : op ∈ Config.unimplemented) : opLen op = none := by
  have hlen : op ∉ len1 ++ len2 ++ len3 := not_mem_of_byteSet_disjoint (by decide +kernel) h
  simp only [List.mem_append, not_or] at hlen
  simp [opLen, hlen]

theorem findRow_op {r : Row} (hr : r ∈ rows) : findRow r.op rows = some r :=
  findRow_of_mem rows_op_nodup hr

theorem operandCount_of_row {r : Row} (hr : r ∈ rows) : operandCount r.op = some (r.fmt.length - 1) := by
  simp [operandCount, implemented_of_row hr, findRow_op hr]

theorem operandCount_of_unimplemented {op : Byte} (h : op ∈ Config.unimplemented) : operandCount op = none := by
  simp [operandCount, Config.implemented, h]

/-! ### Decoding is finding the row -/

/-- R107, instruction by instruction: its row is in lock-step with IMPLEMENTED and LEN. -/
theorem wellFormed_eq_true (i : Instr) : wellFormed i = true := by
  obtain ⟨r, hr, operands, hm⟩ := exists_row i
  obtain ⟨hlen, harity⟩ := opLen_of_row r hr
  simp [wellFormed, wellFormedIn, encode_of_row r hr i operands hm, implemented_of_row hr, hlen, harity, hm.length_eq]

/-- An answer of the decoder is a row, the operand bytes it takes, and what follows them. -/
theorem decode_eq_ok_iff_row {bs rest : List Byte} {i : Instr} :
    decode bs = .ok (i, rest) ↔
      ∃ r ∈ rows, ∃ operands, r.maker.Makes i operands ∧ bs = r.op :: operands ++ rest := by
  constructor
  · intro h
    obtain ⟨op, _, r, rfl, -, hfind, hb⟩ := decode_ok h
    obtain ⟨operands, hm, rfl⟩ := Maker.build_eq_some.mp hb
    obtain ⟨hr, rfl⟩ := findRow_some hfind
    exact ⟨r, hr, operands, hm, rfl⟩
  · rintro ⟨r, hr, operands, hm, rfl⟩
    have hb : r.maker.build (operands ++ rest) = some (i, rest) := Maker.build_eq_some.mpr ⟨operands, hm, rfl⟩
    simp [decode, implemented_of_row hr, findRow_op hr, hb]

/-- R102, R103: decoding and encoding are inverse, whatever bytes follow. -/
theorem decode_eq_ok_iff_encode {bs rest : List Byte} {i : Instr} :
    decode bs = .ok (i, rest) ↔ bs = encode i ++ rest := by
  rw [decode_eq_ok_iff_row]
  constructor
  · rintro ⟨r, hr, operands, hm, rfl⟩
    rw [encode_of_row r hr i operands hm]
  · rintro rfl
    obtain ⟨r, hr, operands, hm⟩ := exists_row i
    exact ⟨r, hr, operands, hm, by rw [encode_of_row r hr i operands hm]⟩

/-- The implemented bytes are those some encoding starts with: a row's opcode starts what the row makes. -/
theorem implemented_iff_encode_head (op : Byte) :
    Config.implemented op = true ↔ ∃ i, (encode i).head? = some op := by
  rw [implemented_iff_row]
  constructor
  · rintro ⟨r, hr, rfl⟩
    obtain ⟨i, operands, hm⟩ := r.maker.exists_makes
    exact ⟨i, by rw [encode_of_row r hr i operands hm]; rfl⟩
  · rintro ⟨i, h⟩
    obtain ⟨r, hr, operands, hm⟩ := exists_row i
    rw [encode_of_row r hr i operands hm] at h
    exact ⟨r, hr, Option.some.inj h⟩

/-! ### The obligations -/

/-- Settles O1: an instruction's bytes decode to it, by the one equivalence of decoder and encoder. -/
theorem decodeOfEncodeGivesInstruction : Obligations.DecodeOfEncodeGivesInstruction :=
  fun _ _ _ => decode_eq_ok_iff_encode.mpr rfl

/-- Settles O2: the same equivalence read backwards; every instruction is well-formed. -/
theorem decodedBytesAreItsEncoding : Obligations.DecodedBytesAreItsEncoding :=
  fun _ i _ h => ⟨wellFormed_eq_true i, decode_eq_ok_iff_encode.mp h⟩

/-- Settles O3: each word is the encoding of the instruction it stands for. -/
theorem specWordsDecodeAsListed : Obligations.SpecWordsDecodeAsListed := by
  have hdec (i : Instr) : decode (encode i) = .ok (i, []) := decode_eq_ok_iff_encode.mpr (List.append_nil _).symm
  exact ⟨hdec (.ldaImm 0x10), hdec (.ldaAbsx 0x1234), hdec (.staIndy 0x20), hdec (.stxZpy 0xFF), hdec (.sbcImm 0xF0),
    hdec .aslAcc, hdec (.jmpInd 0x02FF), hdec (.bne 0xFB), hdec .brk, rfl⟩

/-- Settles O4: a byte has a row, which all three tables agree with, or is unimplemented, and no table has it. -/
theorem lengthTableInLockStep : Obligations.LengthTableInLockStep := by
  refine ⟨fun op => ?_, by decide +kernel, rfl⟩
  have htables : (opLen op).isSome = Config.implemented op ∧ operandCount op = (opLen op).map (fun n => n - 1) := by
    obtain ⟨r, hr, rfl⟩ | hop := row_or_unimplemented op
    · obtain ⟨hlen, -⟩ := opLen_of_row r hr
      simp [hlen, implemented_of_row hr, operandCount_of_row hr]
    · simp [opLen_of_unimplemented hop, Config.implemented, hop, operandCount_of_unimplemented hop]
  obtain ⟨hdomain, hcount⟩ := htables
  exact ⟨hdomain, implemented_iff_row, implemented_iff_encode_head op, hcount⟩

end Sys2Proof

namespace Sys2Proof.Machine

theorem drawStatus_pc (s : State) : (drawStatus s).pc = s.pc := by
  obtain ⟨v, vs, h⟩ := drawStatus_eq s
  rw [h]
  rfl

/-- R108: an unimplemented byte faults before any operand byte is read. -/
theorem fetch_of_unimplemented {s s1 : State} {op : Byte} (hread : busRead s.pc s = .ok (op, s1))
    (hop : op ∈ Config.unimplemented) : fetch s = .error (.unimplementedOpcode op s.pc) := by
  simp [fetch, hread, operandCount_of_unimplemented hop]

/-- Settles O10: the fetch faults, so the step does; the draw leaves `PC` where it is. -/
theorem unimplementedOpcodeFaults : Obligations.UnimplementedOpcodeFaults := by
  refine ⟨rfl, fun s s1 op hrun hread hop => ?_⟩
  rw [← drawStatus_pc s] at hread
  simp [step, hrun, fetch_of_unimplemented hread hop, drawStatus_pc]

end Sys2Proof.Machine
end

section
/-! Fetching and stepping (40_fetch_and_addressing.md section 1, R120 to R123): the bytes at `PC` determine the
instruction that a step runs, and the auto-advance adds the rest of the instruction's length where `PC` is still `pc0`. -/

namespace Sys2Proof.Machine

/-! ### The lengths of an encoding -/

/-- R105, R107: the opcode byte tells how many bytes follow it. -/
theorem operandCount_of_encode {i : Instr} {op : Byte} {operands : List Byte} (h : encode i = op :: operands) :
    operandCount op = some operands.length := by
  obtain ⟨r, hr, bytes, hm⟩ := exists_row i
  rw [encode_of_row r hr i bytes hm] at h
  cases h
  rw [operandCount_of_row hr, (opLen_of_row r hr).2, hm.length_eq, Nat.add_sub_cancel]

theorem opLen_of_encode {i : Instr} {op : Byte} (h : (encode i).head? = some op) :
    opLen op = some (encode i).length := by
  obtain ⟨r, hr, bytes, hm⟩ := exists_row i
  obtain ⟨hlen, harity⟩ := opLen_of_row r hr
  rw [encode_of_row r hr i bytes hm] at h ⊢
  cases h
  rw [hlen, harity, List.length_cons, hm.length_eq]

/-! ### A fetch reads the bytes at `PC`, wherever `PC` points meanwhile -/

section
variable {s t : State} (p : Word)

theorem periphRead_setPc {i : Nat} {b : Byte} (h : periphRead i s = .ok (b, t)) :
    periphRead i (s.setPc p) = .ok (b, t.setPc p) := by
  match i with
  | 2 | 4 => cases h; rfl
  | 7 =>
    cases hv : videoRead s.vaddr s with
    | ok byte =>
      rw [periphRead_seven_ok hv] at h
      cases h
      exact periphRead_seven_ok hv
    | error f =>
      rw [periphRead_seven_error hv] at h
      cases h
  | 0 | 1 | 3 | 5 | 6 | n + 8 => cases h

theorem busRead_setPc {a : Word} {b : Byte} (h : busRead a s = .ok (b, t)) :
    busRead a (s.setPc p) = .ok (b, t.setPc p) := by
  unfold busRead at h ⊢
  cases hr : regionOf a <;> simp only [hr] at h
  case periph i => exact periphRead_setPc p h
  all_goals cases h <;> rfl

theorem readBytes_setPc {n : Nat} {a : Word} {bs : List Byte} (h : readBytes n a s = .ok (bs, t)) :
    readBytes n a (s.setPc p) = .ok (bs, t.setPc p) := by
  induction n generalizing a s bs with
  | zero => cases h; rfl
  | succ n ih =>
    obtain ⟨b, s1, hread, hrest⟩ := andThen_eq_ok.mp h
    obtain ⟨bs, s2, hbytes, hdone⟩ := andThen_eq_ok.mp hrest
    cases hdone
    rw [readBytes, busRead_setPc p hread, andThen_ok, ih hbytes, andThen_ok]

end

/-- R120, R135: with an encoding at `PC` the fetch answers its instruction. -/
theorem fetch_of_encode {s s1 : State} {i : Instr} {op : Byte} (hop : (encode i).head? = some op)
    (hread : readBytes (encode i).length s.pc s = .ok (encode i, s1)) :
    fetch s = .ok ({ instr := i, op := op }, s1.setPc (s.pc + 1)) := by
  obtain ⟨operands, henc⟩ := List.head?_eq_some_iff.mp hop
  have hdec : decode (op :: operands) = .ok (i, []) := decode_eq_ok_iff_encode.mpr (by rw [henc, List.append_nil])
  rw [henc] at hread
  obtain ⟨b, s2, hhead, hrest⟩ := andThen_eq_ok.mp hread
  obtain ⟨bs, s3, htail, hdone⟩ := andThen_eq_ok.mp hrest
  cases hdone
  simp only [fetch, hhead, andThen_ok, operandCount_of_encode henc, State.setPc_pc, readBytes_setPc _ htail, hdec]

/-! ### The auto-advance (R122) -/

theorem autoAdvance_of_ne {op : Byte} {pc0 : Word} {t : State} (h : t.pc ≠ pc0) :
    autoAdvance op pc0 (.next t) = .next t := if_neg h

theorem autoAdvance_of_eq {op : Byte} {t : State} {n : Nat} (hn : opLen op = some n) :
    autoAdvance op t.pc (.next t) = .next (t.setPc (t.pc + BitVec.ofNat 16 (n - 1))) := by
  rw [autoAdvance, if_pos rfl, hn, Option.getD_some]

/-- After a one-byte instruction nothing is left to skip. -/
theorem autoAdvance_of_length_one {op : Byte} {t : State} (hn : opLen op = some 1) :
    autoAdvance op t.pc (.next t) = .next t := by
  rw [autoAdvance_of_eq hn]
  exact congrArg (fun pc => Host.Outcome.next (t.setPc pc)) (BitVec.add_zero t.pc)

/-- Settles O9: the bytes at `PC` are fetched as the instruction they encode. -/
theorem stepRunsTheDecodedInstruction : Obligations.StepRunsTheDecodedInstruction := by
  intro s s1 i op hrun _ hop hread
  rw [← drawStatus_pc s] at hread ⊢
  simp only [step, hrun, fetch_of_encode hop hread, State.setPc_pc]

/-- Settles O11: the step is `exec` and the auto-advance; only a transfer of control has an effect on `PC`. -/
theorem stepAdvancesByLength : Obligations.StepAdvancesByLength := by
  intro s s1 u i op hrun hwf hop hread hexec
  have hstep : step s = autoAdvance op (s.pc + 1) (.next u) := by
    rw [stepRunsTheDecodedInstruction s s1 i op hrun hwf hop hread, hexec]
  have hlen : opLen op = some (encode i).length := opLen_of_encode hop
  refine ⟨(exec_effect hexec).keepsPc, fun hpc => ⟨hlen, ?_⟩, fun hpc => hstep.trans (autoAdvance_of_ne hpc)⟩
  have hpos : 0 < (encode i).length := List.length_pos_of_mem (List.mem_of_mem_head? hop)
  have hsum : s.pc + 1 + BitVec.ofNat 16 ((encode i).length - 1) = s.pc + BitVec.ofNat 16 (encode i).length := by
    rw [BitVec.add_assoc]
    exact congrArg (s.pc + ·) ((BitVec.ofNat_add 1 _).symm.trans (by rw [Nat.add_sub_cancel' hpos]))
  rw [hstep, ← hpc, autoAdvance_of_eq hlen, hpc, hsum]

end Sys2Proof.Machine
end

section
/-! Operands (40_fetch_and_addressing.md section 2, R125 to R131): the addresses that the modes resolve to, as numbers. -/

namespace Sys2Proof.Machine

theorem zext_add_toNat (z d : Byte) : (zext (z + d)).toNat = (z.toNat + d.toNat) % 256 := by
  rw [zext_toNat, BitVec.toNat_add]

theorem add_zext_toNat (w : Word) (d : Byte) : (w + zext d).toNat = (w.toNat + d.toNat) % 65536 := by
  rw [BitVec.toNat_add, zext_toNat]

/-- R130, R131: the word at a pointer in page 0, its high byte at the next address modulo 256. -/
theorem pointerWord_toNat (z : Byte) (s : State) :
    (pointerWord z s).toNat = wordOf (s.byte .wram ((z.toNat + 1) % 256)) (s.byte .wram z.toNat) := by
  rw [pointerWord, mkWord_toNat, BitVec.toNat_add]
  rfl

/-- R129: the address after the pointer, in the page of the pointer. -/
theorem mkWord_hiByte_loByte_add_one {ptr next : Word}
    (h : next.toNat = if ptr.toNat % 256 = 0xFF then ptr.toNat / 256 * 256 else ptr.toNat + 1) :
    mkWord (hiByte ptr) (loByte ptr + 1) = next := by
  apply BitVec.eq_of_toNat_eq
  have hlo : (loByte ptr + 1).toNat = (ptr.toNat % 256 + 1) % 256 := by rw [BitVec.toNat_add, loByte_toNat]; rfl
  rw [mkWord_toNat, hiByte_toNat, hlo, h]
  split <;> omega

/-- Settles O28: what each direct mode resolves to, as a number. -/
theorem directModesResolve : Obligations.DirectModesResolve := fun s z addr =>
  ⟨⟨_, effAddr_eq (.zp z) s, zext_toNat z⟩, ⟨_, effAddr_eq (.zpx z) s, zext_add_toNat z s.x⟩,
    ⟨_, effAddr_eq (.zpy z) s, zext_add_toNat z s.y⟩, ⟨_, effAddr_eq (.abs addr) s, rfl⟩,
    ⟨_, effAddr_eq (.absx addr) s, add_zext_toNat addr s.x⟩, ⟨_, effAddr_eq (.absy addr) s, add_zext_toNat addr s.y⟩⟩

/-- Settles O29: both modes go through the word at a pointer in page 0. -/
theorem zeroPagePointersWrap : Obligations.ZeroPagePointersWrap := by
  refine fun s z => ⟨⟨_, effAddr_eq (.indx z) s, ?_⟩, ⟨_, effAddr_eq (.indy z) s, ?_⟩⟩
  · rw [addrOf, pointerWord_toNat, BitVec.toNat_add, Nat.mod_add_mod]
  · rw [addrOf, add_zext_toNat, pointerWord_toNat]

/-- Settles O30: the second read is at the address given, and each read ends the resolution where it faults. -/
theorem indirectPointerWrapsInItsPage : Obligations.IndirectPointerWrapsInItsPage := by
  refine fun ptr s => ⟨fun next lo s1 hnext hlo => ⟨fun hi s2 hhi => ⟨_, ?_, mkWord_toNat hi lo⟩, fun f hhi => ?_⟩,
    fun f hlo => ?_⟩
  · rw [indirectTarget, hlo, andThen_ok, mkWord_hiByte_loByte_add_one hnext, hhi, andThen_ok]
  · rw [indirectTarget, hlo, andThen_ok, mkWord_hiByte_loByte_add_one hnext, hhi, andThen_error]
  · rw [indirectTarget, hlo, andThen_error]

end Sys2Proof.Machine
end

section
/-! The stack array and `SetZN` (40_fetch_and_addressing.md sections 3 and 4, R137 to R140). -/

namespace Sys2Proof.Machine

/-! ### Push and pull -/

section
variable (v : Byte) (n : Word) (s : State)

/-- R138: a push replaces one byte of the stack array, then `SP`. -/
theorem push_eq_writeByte : push v s = (s.writeByte .stack s.sp.toNat v).setSp (s.sp - 1) := rfl

@[simp] theorem byte_setSp (st : Store) (i : Nat) : (s.setSp v).byte st i = s.byte st i := by
  cases st <;> rfl

@[simp] theorem byte_push_same : (push v s).byte .stack s.sp.toNat = v := by
  rw [push_eq_writeByte, byte_setSp, byte_writeByte_same]

theorem push_keepsBytesBut : KeepsBytesBut .stack s.sp.toNat s (push v s) := by
  intro st i h
  rw [push_eq_writeByte, byte_setSp, writeByte_keepsBytesBut _ _ _ _ st i h]

theorem push_keepsRegs : KeepsRegs [.sp] s (push v s) := by
  intro r hr
  cases r with
  | sp => exact absurd (List.mem_singleton_self _) hr
  | a | x | y => rfl

theorem sp_toNat_ne_sub_one : s.sp.toNat ≠ (s.sp - 1).toNat := by
  bv_omega

/-- R140: the high byte stands at the higher index, where the first push put it. -/
theorem byte_pushWord_high : (pushWord n s).byte .stack s.sp.toNat = hiByte n := by
  rw [pushWord, push_keepsBytesBut _ _ _ _ fun h => sp_toNat_ne_sub_one s h.2, byte_push_same]

theorem byte_pushWord_low : (pushWord n s).byte .stack (s.sp - 1).toNat = loByte n :=
  byte_push_same (loByte n) (push (hiByte n) s)

theorem pushWord_sp : (pushWord n s).sp = s.sp - 1 - 1 := rfl

/-- R138, R139: a pull undoes a push. -/
theorem pull_push : (pull (push v s)).1 = v ∧ (pull (push v s)).2.sp = s.sp := by
  have hsp : s.sp - 1 + 1 = s.sp := BitVec.sub_add_cancel s.sp 1
  refine ⟨?_, hsp⟩
  rw [pull_fst, push_sp, hsp]
  exact byte_push_same v s

/-- R140: a 16-bit pull undoes a 16-bit push. -/
theorem pullWord_pushWord : (pullWord (pushWord n s)).1 = n ∧ (pullWord (pushWord n s)).2.sp = s.sp := by
  have hlow : s.sp - 1 - 1 + 1 = s.sp - 1 := BitVec.sub_add_cancel (s.sp - 1) 1
  have hhigh : s.sp - 1 - 1 + 1 + 1 = s.sp := by rw [hlow, BitVec.sub_add_cancel]
  refine ⟨?_, hhigh⟩
  rw [pullWord_fst, pushWord_sp, hhigh, hlow]
  exact (congrArg₂ mkWord (byte_pushWord_high n s) (byte_pushWord_low n s)).trans (mkWord_hiByte_loByte n)

theorem wordOf_pushWord :
    wordOf ((pushWord n s).byte .stack s.sp.toNat) ((pushWord n s).byte .stack (s.sp - 1).toNat) = n.toNat := by
  rw [byte_pushWord_high, byte_pushWord_low, wordOf, ← mkWord_toNat, mkWord_hiByte_loByte]

end

/-- Settles O31: what one push and one pull do, and that a pull undoes a push. -/
theorem pushThenPullRestores : Obligations.PushThenPullRestores := by
  intro v n s
  have hinc : s.sp + 1 = BitVec.ofNat 8 ((s.sp.toNat + 1) % 256) := by
    apply BitVec.eq_of_toNat_eq
    simp
  obtain ⟨hpull, hpullSp⟩ := pull_push v s
  obtain ⟨hpullWord, hpullWordSp⟩ := pullWord_pushWord n s
  refine ⟨byte_push_same v s, ?_, push_keepsBytesBut v s, push_keepsRegs v s, fun _ _ => rfl, ⟨rfl, rfl, rfl, rfl, rfl, rfl⟩,
    rfl, rfl, ⟨rfl, rfl, rfl, rfl, rfl⟩, ?_, hpull, hpullSp, wordOf_pushWord n s, ?_, hpullWord, hpullWordSp⟩
  · rw [push_sp, BitVec.toNat_sub, Nat.add_comm]
    rfl
  · rw [← hinc]
    rfl
  · exact BitVec.sub_sub s.sp 1 1

/-! ### `SetZN` (R137) -/

section
variable (p v : Byte)

theorem getFlag_setZN_zero : getFlag (setZN p v) .z = decide (v.toNat = 0) := by
  rw [setZN, getFlag_putFlag_other _ _ (by decide), getFlag_putFlag_same, Bool.eq_iff_iff, beq_iff_eq, decide_eq_true_iff]
  exact BitVec.toNat_inj (y := 0).symm

theorem getFlag_setZN_negative : getFlag (setZN p v) .n = decide (128 ≤ v.toNat) := by
  rw [setZN, getFlag_putFlag_same, BitVec.msb_eq_decide]

end

/-- Settles O32: the two flags written, and the six that `SetZN` leaves. -/
theorem setZNFollowsTheResult : Obligations.SetZNFollowsTheResult := fun p v =>
  ⟨getFlag_setZN_zero p v, getFlag_setZN_negative p v, fun _ hz hn => getFlag_setZN_other p v hz hn⟩

end Sys2Proof.Machine
end

section
/-! A transfer of control to the very next byte (R123): `PC` is at `pc0`, so the auto-advance applies to it as well. -/

namespace Sys2Proof.Machine

theorem BranchForm.opLen_eq_two {i : Instr} {op : Byte} {f : Flag} {v : Bool} {rel : Byte}
    (h : BranchForm i op f v rel) : opLen op = some 2 := by
  cases h <;> rfl

/-- An offset of -1 undoes the step over the offset byte (R132). -/
theorem branchTarget_minus_one (pc0 : Word) : branchTarget pc0 0xFF = pc0 := by
  have hcancel : 1 + sext 0xFF = 0 := rfl
  rw [branchTarget, BitVec.add_assoc, hcancel, add_zero]

/-- What is advanced after a transfer to `pc0`. -/
theorem autoAdvance_setPc {op : Byte} {pc0 : Word} {t : State} {n : Nat} (hn : opLen op = some n) :
    autoAdvance op pc0 (.next (t.setPc pc0)) = .next (t.setPc (pc0 + BitVec.ofNat 16 (n - 1))) :=
  autoAdvance_of_eq (t := t.setPc pc0) hn

/-- Settles O12: the rest of the instruction's length is 2, 1 or 0 bytes. -/
theorem transferToNextByteFallsThrough : Obligations.TransferToNextByteFallsThrough := by
  intro s
  refine ⟨autoAdvance_setPc (n := 3) rfl, fun ptr s1 h => ?_,
    ⟨_, autoAdvance_setPc (n := 3) rfl, rfl, wordOf_pushWord (s.pc + 1) s⟩,
    fun i op f v hf hflag => ?_, fun t h hpc => ?_, fun t h hpc => ?_, fun t h hpc => ?_⟩
  · have hexec : exec (.jmpInd ptr) s = .next (s1.setPc s.pc) := by
      rw [exec, execJmpInd, h, andThen_ok, finish_ok]
    rw [hexec]
    exact autoAdvance_setPc (n := 3) rfl
  · rw [exec_branchForm hf, branchIf, if_pos hflag, branchTarget_minus_one]
    exact autoAdvance_setPc hf.opLen_eq_two
  all_goals
    rw [h, ← hpc]
    exact autoAdvance_of_length_one rfl

end Sys2Proof.Machine
end

section
/-! Loads, stores and transfers (41_load_store_transfer.md, R150 to R161): what a register written with Z and N after it
leaves alone, and where the byte of a bus write goes (R61). -/

namespace Sys2Proof.Machine

/-! ### A register written, Z and N after it -/

/-- Register `r` is `v`, Z and N follow it, the toggle is `w`; nothing else changes. -/
def TakesValue (r : Reg) (v : Byte) (w : Bool) (s t : State) : Prop :=
  t.reg r = v ∧ FollowsZN v.toNat t ∧ KeepsRegs [r] s t ∧ KeepsFlags [.z, .n] s t ∧ KeepsRest s t ∧ t.w = w ∧ t.pc = s.pc

section
variable (r : Reg) (v : Byte) (w : Bool) (s : State)

/-- R137, as a number. -/
theorem updateZN_followsZN : FollowsZN v.toNat (s.updateZN v) :=
  ⟨getFlag_setZN_zero s.p v, getFlag_setZN_negative s.p v⟩

theorem updateZN_keepsFlags : KeepsFlags [.z, .n] s (s.updateZN v) := fun _ hf => getFlag_setZN_of_notMem s.p v hf

theorem setReg_keepsRegs : KeepsRegs [r] s (s.setReg r v) :=
  fun q hq => s.setReg_reg_other r q v (List.ne_of_not_mem_cons hq)

theorem setReg_updateZN_keepsRest : KeepsRest s (((s.setW w).setReg r v).updateZN v) := by
  cases r <;>
    exact ⟨fun st _ => by cases st <;> rfl, ⟨rfl, rfl, rfl, rfl, rfl, rfl⟩, rfl, rfl, rfl, rfl, rfl⟩

theorem setReg_updateZN_takesValue : TakesValue r v w s (((s.setW w).setReg r v).updateZN v) := by
  refine ⟨?_, updateZN_followsZN v _, fun q hq => ?_, fun f hf => ?_, setReg_updateZN_keepsRest r v w s, ?_, ?_⟩
  · rw [State.updateZN_reg, State.setReg_reg_same]
  · rw [State.updateZN_reg, setReg_keepsRegs r v _ q hq, State.setW_reg]
  · rw [updateZN_keepsFlags v _ f hf, State.flag, State.setReg_p]
    rfl
  · rw [State.updateZN_w, State.setReg_w, State.setW_w]
  · rw [State.updateZN_pc, State.setReg_pc, State.setW_pc]

end

/-! ### The byte of a bus write (R61) -/

section
variable {a : Word} {v : Byte} {s t : State}

/-- The bytes that a write of `v` at `a` stores to hold `v`, but those of a bulk copy; every other byte is unchanged. -/
structure StoredAt (a : Word) (v : Byte) (s t : State) : Prop where
  others : ∀ st k, ¬ storesTo a s st k → t.byte st k = s.byte st k
  stored : ∀ st k, a.toNat ≠ 0x4014 → storesTo a s st k → t.byte st k = v

theorem storedAt_writeByte {st : Store} {i : Nat} (h : ∀ st' k, storesTo a s st' k ↔ st' = st ∧ k = i) :
    StoredAt a v s (s.writeByte st i v) where
  others st' k hk := writeByte_keepsBytesBut s st i v st' k fun hsk => hk ((h st' k).mpr hsk)
  stored st' k _ hk := by
    obtain ⟨rfl, rfl⟩ := (h st' k).mp hk
    exact byte_writeByte_same ..

theorem storedAt_of_keepsBytes (h : ∀ st k, ¬ storesTo a s st k) (hkeep : KeepsBytes s t) : StoredAt a v s t where
  others st k _ := hkeep st k
  stored st k _ hk := absurd hk (h st k)

/-- Of the eight register indices of the bus, only 4 and 7 lead to a byte of a store (R79, R83). -/
theorem storesTo_periph_of_ne {i : Nat} (hr : regionOf a = .periph i) (h4 : i ≠ 4) (h7 : i ≠ 7) (st : Store) (k : Nat) :
    ¬ storesTo a s st k := by
  unfold storesTo
  rw [hr]
  split <;> simp_all

/-- The writes of the other indices set a register or fault (R72, R73, R75, R76, R80, R81). -/
theorem periphWrite_keepsBytes {i : Nat} (hi : i < 8) (h4 : i ≠ 4) (h7 : i ≠ 7) (h : periphWrite i v s = .ok t) :
    KeepsBytes s t := by
  by_cases h2 : i = 2
  · subst h2
    cases h
  by_cases h5 : i = 5
  · subst h5
    rw [periphWrite_five] at h
    cases h
    cases s.w <;> exact fun st _ => by cases st <;> rfl
  · obtain rfl | rfl | rfl | rfl : i = 0 ∨ i = 1 ∨ i = 3 ∨ i = 6 := by omega
    all_goals
      cases h
      exact fun st _ => by cases st <;> rfl

/-- A video write that answers is in video memory or in the palette (R83). -/
theorem videoWrite_storedAt (hr : regionOf a = .periph 7) (h : videoWrite s.vaddr v s = .ok t) : StoredAt a v s t := by
  by_cases hrom : s.vaddr.toNat ≤ 0x1FFF
  · rw [videoWrite_chr v s hrom] at h
    cases h
  by_cases hvram : s.vaddr.toNat ≤ 0x2FFF
  · rw [videoWrite_vram v s (by omega) hvram] at h
    cases h
    exact storedAt_writeByte fun st k => by rw [storesTo, hr]; exact iff_of_eq (if_pos hvram)
  by_cases hpal : 0x3F00 ≤ s.vaddr.toNat ∧ s.vaddr.toNat ≤ 0x3FFF
  · rw [videoWrite_pal v s hpal.1 hpal.2] at h
    cases h
    exact storedAt_writeByte fun st k => by rw [storesTo, hr]; exact iff_of_eq (if_neg hvram)
  · rw [videoWrite_unmapped v s (by omega) (by unfold VideoWritable; omega)] at h
    cases h

theorem periphWrite_storedAt {i : Nat} (hi : i < 8) (hr : regionOf a = .periph i) (h : periphWrite i v s = .ok t) :
    StoredAt a v s t := by
  by_cases h4 : i = 4
  · subst h4
    rw [periphWrite_four] at h
    cases h
    obtain ⟨hothers, hstored⟩ : StoredAt a v s (s.writeByte .oam s.oamAddr.toNat v) :=
      storedAt_writeByte fun st k => by rw [storesTo, hr]; exact Iff.rfl
    exact ⟨fun st k hk => (byte_setOamAddr ..).trans (hothers st k hk),
      fun st k ha hk => (byte_setOamAddr ..).trans (hstored st k ha hk)⟩
  by_cases h7 : i = 7
  · subst h7
    exact videoWrite_storedAt hr h
  · exact storedAt_of_keepsBytes (storesTo_periph_of_ne hr h4 h7) (periphWrite_keepsBytes hi h4 h7 h)

/-- A bulk copy stores to OAM only (R85). -/
theorem bulkCopy_storedAt (ha : a.toNat = 0x4014) {is : List Nat} (h : bulkCopy v is s = .ok t) : StoredAt a v s t where
  others st k hk := by
    have hst : st ≠ .oam := by rwa [storesTo, regionOf_bulkCopy ha] at hk
    rw [bulkCopy_ok h]
    cases st with
    | oam => exact absurd rfl hst
    | _ => rfl
  stored _ _ hne := absurd ha hne

/-- A bus write that answers, region by region. -/
theorem busWrite_storedAt (h : busWrite a v s = .ok t) : StoredAt a v s t := by
  obtain ⟨ha, hr⟩ | ⟨h1, h2, hr⟩ | ⟨ha, -⟩ | ⟨-, -, -, hr⟩ | ⟨-, -, hr⟩ | ⟨h1, h2, hr⟩ | ⟨-, hr⟩ := regionOf_cases a
  · rw [busWrite_wram v s ha] at h
    cases h
    exact storedAt_writeByte fun st k => by rw [storesTo, hr]
  · rw [busWrite_periph v s h1 h2] at h
    exact periphWrite_storedAt (Nat.mod_lt _ (by omega)) hr h
  · rw [busWrite_bulkCopy v s ha] at h
    exact bulkCopy_storedAt ha h
  · rw [busWrite, hr] at h
    cases h
    exact storedAt_of_keepsBytes (fun st k => by rw [storesTo, hr]; exact id) fun _ _ => rfl
  · rw [busWrite, hr] at h
    cases h
  · rw [busWrite_cram v s h1 h2] at h
    cases h
    exact storedAt_writeByte fun st k => by rw [storesTo, hr]
  · rw [busWrite, hr] at h
    cases h

theorem periphWrite_answers {i : Nat} (hi : i < 8) (h2 : i ≠ 2) (h7 : i = 7 → VideoWritable s.vaddr) :
    ∃ t, periphWrite i v s = .ok t := by
  by_cases hvideo : i = 7
  · subst hvideo
    obtain ⟨h1, h2⟩ | ⟨h1, h2⟩ := h7 rfl
    · exact ⟨_, videoWrite_vram v s h1 h2⟩
    · exact ⟨_, videoWrite_pal v s h1 h2⟩
  · obtain rfl | rfl | rfl | rfl | rfl | rfl : i = 0 ∨ i = 1 ∨ i = 3 ∨ i = 4 ∨ i = 5 ∨ i = 6 := by omega
    all_goals exact ⟨_, rfl⟩

/-- A write at a writable address answers. -/
theorem busWrite_answers (h : Writable a v s) : ∃ t, busWrite a v s = .ok t := by
  obtain ha | ⟨h1, h2, hindex, hvideo⟩ | ⟨h1, h2, hcopy⟩ | ⟨h1, h2⟩ := h
  · exact ⟨_, busWrite_wram v s ha⟩
  · rw [busWrite_periph v s h1 h2]
    exact periphWrite_answers (Nat.mod_lt _ (by omega)) hindex hvideo
  · by_cases ha : a.toNat = 0x4014
    · obtain ⟨m, hm, -⟩ := bulkCopy_copyable s (hcopy ha)
      exact ⟨_, (busWrite_bulkCopy v s ha).trans hm⟩
    · exact ⟨s, busWrite_stub v s h1 h2 ha⟩
  · exact ⟨_, busWrite_cram v s h1 h2⟩

theorem BusFrame.keepsRun (h : BusFrame s t) : KeepsRun s t := ⟨h.status, h.prgSize, h.chrSize, h.halted, h.statusIn⟩

end

/-! ### The opcode bytes (R104) -/

section
variable {i : Instr} {op : Byte}

theorem LoadForm.encode_head {r : Reg} {src : Source} (h : LoadForm i op r src) : (encode i).head? = some op := by
  cases h <;> rfl

theorem StoreForm.encode_head {r : Reg} {mode : AddrMode} (h : StoreForm i op r mode) : (encode i).head? = some op := by
  cases h <;> rfl

theorem TransferForm.encode_head {q r : Reg} (h : TransferForm i op q r) : (encode i).head? = some op := by
  cases h <;> rfl

end

/-! ### The obligations -/

/-- Settles O33: a read leaves all but the toggle, the load then writes the register, Z and N; a fault of the read ends
it. -/
theorem loadTakesTheOperand : Obligations.LoadTakesTheOperand := by
  refine fun i op r src hf s => ⟨hf.encode_head, fun m s1 hm => ?_, fun f hfault => ?_⟩
  · have hnext : exec i s = .next ((s1.setReg r m).updateZN m) :=
      (exec_loadForm hf s).trans (loadReg_next.mpr ⟨m, s1, hm, rfl⟩)
    have htakes := setReg_updateZN_takesValue r m s1.w s
    rw [← source_read_ok hm] at htakes
    exact ⟨_, hnext, htakes⟩
  · rw [exec_loadForm hf, loadReg, hfault, andThen_error, finish_error]

/-- Settles O34: the store is the one bus write at the address its mode resolves to. -/
theorem storeWritesTheRegister : Obligations.StoreWritesTheRegister := by
  refine fun i op r mode hf s => ⟨hf.encode_head, addrOf mode s, effAddr_eq mode s, fun hw => ?_, fun f hfault => ?_⟩
  · obtain ⟨t, ht⟩ := busWrite_answers hw
    have hframe := busWrite_frame ht
    obtain ⟨hothers, hstored⟩ := busWrite_storedAt ht
    exact ⟨t, (exec_storeForm hf s).trans (storeReg_next.mpr ht), ht, fun q _ => hframe.reg q,
      keepsFlags_of_p_eq hframe.p, hframe.pc, hframe.keepsRun, hothers, hstored⟩
  · rw [exec_storeForm hf, storeReg, effAddr_eq, andThen_ok, hfault, finish_error]

/-- Settles O35: a transfer writes the register, Z and N as a load does, with nothing read; TXS writes `SP` alone. -/
theorem transfersCopyARegister : Obligations.TransfersCopyARegister := by
  refine ⟨fun i op q r hf s => ⟨hf.encode_head, ?_⟩, fun _ => ⟨rfl, rfl⟩⟩
  exact ⟨_, exec_transferForm hf s, setReg_updateZN_takesValue r (s.reg q) s.w s⟩

end Sys2Proof.Machine
end

section
/-! Arithmetic, logic, compare, increment and decrement (42_arithmetic_logic.md, R170 to R185): what each meaning answers
when its operand can be read, and the sums as integers. -/

namespace Sys2Proof.Machine

/-! ### What stays when registers and `P` are written -/

/-- Of the registers at most `rs`, of the flags at most `fs` change, the toggle is `w`; nothing else changes. -/
def ChangesOnly (rs : List Reg) (fs : List Flag) (w : Bool) (s t : State) : Prop :=
  KeepsRegs rs s t ∧ KeepsFlags fs s t ∧ KeepsRest s t ∧ t.w = w ∧ t.pc = s.pc

section
variable (p v : Byte) (w : Bool) (s : State) {fs : List Flag}

@[simp] theorem byte_setP (st : Store) (k : Nat) : (s.setP p).byte st k = s.byte st k := by
  cases st <;> rfl

@[simp] theorem byte_setW (st : Store) (k : Nat) : (s.setW w).byte st k = s.byte st k := by
  cases st <;> rfl

theorem setP_keepsRest {t : State} (h : KeepsRest s t) : KeepsRest s (t.setP p) :=
  ⟨fun st k => (byte_setP p t st k).trans (h.1 st k), h.2⟩

theorem setW_keepsRest : KeepsRest s (s.setW w) :=
  ⟨byte_setW w s, ⟨rfl, rfl, rfl, rfl, rfl, rfl⟩, rfl, rfl, rfl, rfl, rfl⟩

theorem setP_changesOnly (hp : ∀ f, f ∉ fs → getFlag p f = getFlag s.p f) :
    ChangesOnly [] fs w s ((s.setW w).setP p) :=
  ⟨fun q _ => by rw [State.setP_reg, State.setW_reg], hp, setP_keepsRest p s (setW_keepsRest w s), rfl, rfl⟩

theorem setA_setP_changesOnly (hp : ∀ f, f ∉ fs → getFlag p f = getFlag s.p f) :
    ChangesOnly [.a] fs w s (((s.setW w).setA v).setP p) :=
  ⟨fun q hq => by rw [State.setP_reg, ← State.setW_reg s w q]; exact setReg_keepsRegs .a v _ q hq, hp,
    setP_keepsRest p s (setReg_updateZN_keepsRest .a v w s), rfl, rfl⟩

end

/-! ### The sum as an integer (R171, R172) -/

section
variable (a m : Byte) (c : Bool)

theorem carryNat_le_one : carryNat c ≤ 1 := by
  cases c <;> decide

theorem addCarry_r_toNat : (addCarry a m c).r.toNat = (a.toNat + m.toNat + carryNat c) % 256 :=
  BitVec.toNat_ofNat ..

theorem and_0x80_ne_zero (x : Byte) : ((x &&& 0x80) != 0) = x.msb := by
  revert x
  decide

/-- The result's sign differs from both operands' exactly when the signed sum leaves the range. -/
theorem addCarry_v : (addCarry a m c).v =
    decide (a.toInt + m.toInt + carryNat c < -128 ∨ 127 < a.toInt + m.toInt + carryNat c) := by
  have hc := carryNat_le_one c
  have hr := addCarry_r_toNat a m c
  have hv : (addCarry a m c).v = ((a.msb ^^ (addCarry a m c).r.msb) && (m.msb ^^ (addCarry a m c).r.msb)) := by
    rw [← BitVec.msb_xor, ← BitVec.msb_xor, ← BitVec.msb_and, ← and_0x80_ne_zero]
    rfl
  rw [hv, Bool.eq_iff_iff, BitVec.toInt_eq_toNat_cond, BitVec.toInt_eq_toNat_cond]
  simp only [BitVec.msb_eq_decide, hr, Bool.and_eq_true, bne_iff_ne, ne_eq, decide_eq_decide, decide_eq_true_iff]
  have ha := a.isLt
  have hm := m.isLt
  omega

theorem xor_0xFF_toNat : (m ^^^ 0xFF).toNat = 255 - m.toNat := by
  rw [show (0xFF : Byte) = BitVec.allOnes 8 from rfl, BitVec.xor_allOnes, BitVec.toNat_not]

theorem xor_0xFF_toInt : (m ^^^ 0xFF).toInt = -m.toInt - 1 := by
  rw [BitVec.toInt_eq_toNat_cond, BitVec.toInt_eq_toNat_cond, xor_0xFF_toNat]
  have hm := m.isLt
  split <;> split <;> omega

/-- R172: adding the one's complement subtracts. -/
theorem subBorrow_r_toNat : (subBorrow a m c).r.toNat = (a.toNat + 255 + carryNat c - m.toNat) % 256 := by
  have hm := m.isLt
  rw [subBorrow, addCarry_r_toNat, xor_0xFF_toNat]
  congr 1
  omega

theorem subBorrow_c : (subBorrow a m c).c = decide (m.toNat + 1 ≤ a.toNat + carryNat c) := by
  have hm := m.isLt
  have hc : (subBorrow a m c).c = decide (255 < a.toNat + (m ^^^ 0xFF).toNat + carryNat c) := rfl
  rw [hc, xor_0xFF_toNat, decide_eq_decide]
  omega

theorem subBorrow_v : (subBorrow a m c).v =
    decide (a.toInt - m.toInt - 1 + carryNat c < -128 ∨ 127 < a.toInt - m.toInt - 1 + carryNat c) := by
  have hsum : a.toInt + (-m.toInt - 1) = a.toInt - m.toInt - 1 := by omega
  rw [subBorrow, addCarry_v, xor_0xFF_toInt, hsum]

end

/-! ### The flags that each meaning writes -/

section
variable (p : Byte)

theorem getFlag_sumFlags_carry (o : Sum) : getFlag (sumFlags p o) .c = o.c := by
  rw [sumFlags, getFlag_setZN_other _ _ (by decide) (by decide), getFlag_putFlag_other _ _ (by decide),
    getFlag_putFlag_same]

theorem getFlag_sumFlags_overflow (o : Sum) : getFlag (sumFlags p o) .v = o.v := by
  rw [sumFlags, getFlag_setZN_other _ _ (by decide) (by decide), getFlag_putFlag_same]

variable (r m : Byte)

theorem getFlag_compareFlags_carry : getFlag (compareFlags p r m) .c = decide (m.toNat ≤ r.toNat) := by
  rw [compareFlags, getFlag_putFlag_other _ _ (by decide), getFlag_putFlag_other _ _ (by decide), getFlag_putFlag_same]

theorem getFlag_compareFlags_zero : getFlag (compareFlags p r m) .z = decide (r = m) := by
  rw [compareFlags, getFlag_putFlag_other _ _ (by decide), getFlag_putFlag_same, beq_eq_decide]

theorem getFlag_compareFlags_negative :
    getFlag (compareFlags p r m) .n = decide (128 ≤ (r.toNat + 256 - m.toNat) % 256) := by
  have hdiff : (r - m).toNat = (r.toNat + 256 - m.toNat) % 256 := by bv_omega
  rw [compareFlags, getFlag_putFlag_same, BitVec.msb_eq_decide, hdiff]

theorem getFlag_bitFlags_zero : getFlag (bitFlags p r m) .z = decide (r &&& m = 0) := by
  rw [bitFlags, getFlag_putFlag_other _ _ (by decide), getFlag_putFlag_other _ _ (by decide), getFlag_putFlag_same,
    beq_eq_decide]

theorem getFlag_bitFlags_negative : getFlag (bitFlags p r m) .n = m.getLsbD 7 := by
  rw [bitFlags, getFlag_putFlag_other _ _ (by decide), getFlag_putFlag_same]

theorem getFlag_bitFlags_overflow : getFlag (bitFlags p r m) .v = m.getLsbD 6 := by
  rw [bitFlags, getFlag_putFlag_same]

end

/-! ### What each meaning answers when its operand can be read -/

section
variable {s s1 : State} {m : Byte} {src : Source}

/-- `A`, C and V are those of the sum `o`, Z and N follow `A`; nothing else changes. -/
def TakesSum (o : Sum) (w : Bool) (s t : State) : Prop :=
  t.a = o.r ∧ t.flag .c = o.c ∧ t.flag .v = o.v ∧ FollowsZN t.a.toNat t ∧ ChangesOnly [.a] [.c, .z, .v, .n] w s t

theorem addToA_of_read (adder : Byte → Byte → Bool → Sum) (h : src.read s = .ok (m, s1)) :
    ∃ t, addToA adder src s = .next t ∧ TakesSum (adder s.a m (s.flag .c)) s1.w s t := by
  refine ⟨_, addToA_next.mpr ⟨m, s1, h, rfl⟩, ?_⟩
  rw [source_read_ok h]
  exact ⟨rfl, getFlag_sumFlags_carry _ _, getFlag_sumFlags_overflow _ _,
    ⟨getFlag_setZN_zero _ _, getFlag_setZN_negative _ _⟩,
    setA_setP_changesOnly _ _ _ s fun _ hf => getFlag_sumFlags_of_notMem _ _ hf⟩

theorem logicToA_of_read (g : Byte → Byte → Byte) (h : src.read s = .ok (m, s1)) :
    ∃ t, logicToA g src s = .next t ∧ TakesValue .a (g s.a m) s1.w s t := by
  refine ⟨_, logicToA_next.mpr ⟨m, s1, h, rfl⟩, ?_⟩
  rw [source_read_ok h]
  exact setReg_updateZN_takesValue .a _ _ s

theorem bitTest_of_read {mode : AddrMode} (h : Source.read (.mem mode) s = .ok (m, s1)) :
    bitTest mode s = .next ((s.setW s1.w).setP (bitFlags s.p s.a m)) := by
  refine bitTest_next.mpr ⟨m, s1, h, ?_⟩
  rw [source_read_ok h]
  rfl

theorem compareReg_of_read (r : Reg) (h : src.read s = .ok (m, s1)) :
    compareReg r src s = .next ((s.setW s1.w).setP (compareFlags s.p (s.reg r) m)) := by
  refine compareReg_next.mpr ⟨m, s1, h, ?_⟩
  rw [source_read_ok h, State.setW_reg]
  rfl

end

/-! ### A memory byte read and written back (R66, R180, R181) -/

section
variable {mode : AddrMode} {value flags : Byte → State → Byte} {s s1 : State} {v : Byte} {f : Fault}

theorem modify_mem_read_error (h : busRead (addrOf mode s) s = .error f) :
    Target.modify (.mem mode) value flags s = .error f := by
  rw [Target.modify, effAddr_eq, andThen_ok, h, andThen_error]

theorem modify_mem_write_error (h1 : busRead (addrOf mode s) s = .ok (v, s1))
    (h2 : busWrite (addrOf mode s) (value v s1) s1 = .error f) :
    Target.modify (.mem mode) value flags s = .error f := by
  simp only [Target.modify, effAddr_eq, andThen_ok, h1, h2]

/-- A read changes nothing that decides where a write stores to. -/
theorem busRead_storedAt_busWrite {a : Word} {r : Byte} {s2 : State} (h1 : busRead a s = .ok (v, s1))
    (h2 : busWrite a r s1 = .ok s2) : StoredAt a r s s2 := by
  have hw := busWrite_storedAt h2
  obtain rfl | ⟨-, rfl⟩ := busRead_ok h1
  · exact hw
  · exact ⟨fun st k hk => (hw.others st k hk).trans (byte_setW false s st k), hw.stored⟩

end

/-! ### The opcode bytes and the meanings (R104) -/

section
variable {i : Instr} {op : Byte} {src : Source} {mode : AddrMode}

theorem AdcForm.encode_head (h : AdcForm i op src) : (encode i).head? = some op := by
  cases h <;> rfl

theorem SbcForm.encode_head (h : SbcForm i op src) : (encode i).head? = some op := by
  cases h <;> rfl

theorem AndForm.encode_head (h : AndForm i op src) : (encode i).head? = some op := by
  cases h <;> rfl

theorem OraForm.encode_head (h : OraForm i op src) : (encode i).head? = some op := by
  cases h <;> rfl

theorem EorForm.encode_head (h : EorForm i op src) : (encode i).head? = some op := by
  cases h <;> rfl

theorem BitForm.encode_head (h : BitForm i op mode) : (encode i).head? = some op := by
  cases h <;> rfl

theorem CompareForm.encode_head {r : Reg} (h : CompareForm i op r src) : (encode i).head? = some op := by
  cases h <;> rfl

theorem IncForm.encode_head (h : IncForm i op mode) : (encode i).head? = some op := by
  cases h <;> rfl

theorem DecForm.encode_head (h : DecForm i op mode) : (encode i).head? = some op := by
  cases h <;> rfl

theorem StepRegForm.encode_head {r : Reg} {d : Nat} (h : StepRegForm i op r d) : (encode i).head? = some op := by
  cases h <;> rfl

/-- AND, ORA and EOR are one meaning, each with the byte function whose bits are those of `f`. -/
theorem exec_logicForms {f : Bool → Bool → Bool}
    (h : (AndForm i op src ∧ f = and) ∨ (OraForm i op src ∧ f = or) ∨ (EorForm i op src ∧ f = xor)) (s : State) :
    (encode i).head? = some op ∧ ∃ g : Byte → Byte → Byte, exec i s = logicToA g src s ∧
      ∀ a m k, (g a m).getLsbD k = f (a.getLsbD k) (m.getLsbD k) := by
  obtain ⟨hf, rfl⟩ | ⟨hf, rfl⟩ | ⟨hf, rfl⟩ := h
  · exact ⟨hf.encode_head, _, exec_andForm hf s, fun _ _ _ => BitVec.getLsbD_and⟩
  · exact ⟨hf.encode_head, _, exec_oraForm hf s, fun _ _ _ => BitVec.getLsbD_or⟩
  · exact ⟨hf.encode_head, _, exec_eorForm hf s, fun _ _ _ => BitVec.getLsbD_xor⟩

/-- DEC adds 255, which is -1 modulo 256. -/
theorem exec_incDecForms {d : Nat} (h : (IncForm i op mode ∧ d = 1) ∨ (DecForm i op mode ∧ d = 255)) (s : State) :
    (encode i).head? = some op ∧ exec i s = stepMemory (BitVec.ofNat 8 d) mode s := by
  obtain ⟨hf, rfl⟩ | ⟨hf, rfl⟩ := h
  · exact ⟨hf.encode_head, exec_incForm hf s⟩
  · exact ⟨hf.encode_head, exec_decForm hf s⟩

end

theorem add_ofNat_toNat (v : Byte) (d : Nat) : (v + BitVec.ofNat 8 d).toNat = (v.toNat + d) % 256 := by
  rw [BitVec.toNat_add, BitVec.toNat_ofNat, Nat.add_mod_mod]

/-! ### The obligations -/

/-- Settles O36: the sum's three parts as integers. -/
theorem adcAddsWithCarry : Obligations.AdcAddsWithCarry := by
  refine fun i op src hf s => ⟨hf.encode_head, fun m s1 hm => ?_, fun f hfault => ?_⟩
  · obtain ⟨t, hnext, ha, hc, hv, hzn, hkeep⟩ := addToA_of_read addCarry hm
    exact ⟨t, (exec_adcForm hf s).trans hnext, (congrArg _ ha).trans (addCarry_r_toNat ..), hc,
      hv.trans (addCarry_v ..), hzn, hkeep⟩
  · rw [exec_adcForm hf, addToA, hfault, andThen_error, finish_error]

/-- Settles O37: SBC is ADC of the one's complement. -/
theorem sbcSubtractsWithBorrow : Obligations.SbcSubtractsWithBorrow := by
  refine fun i op src hf s => ⟨hf.encode_head, fun m s1 hm => ?_, fun f hfault => ?_⟩
  · obtain ⟨t, hnext, ha, hc, hv, hzn, hkeep⟩ := addToA_of_read subBorrow hm
    exact ⟨t, (exec_sbcForm hf s).trans hnext, (congrArg _ ha).trans (subBorrow_r_toNat ..),
      hc.trans (subBorrow_c ..), hv.trans (subBorrow_v ..), hzn, hkeep⟩
  · rw [exec_sbcForm hf, addToA, hfault, andThen_error, finish_error]

/-- Settles O38: the byte function of each mnemonic works bit by bit; the result is written as a load writes it. -/
theorem logicCombinesBits : Obligations.LogicCombinesBits := by
  intro i op src f hf s
  obtain ⟨hop, g, hexec, hg⟩ := exec_logicForms hf s
  refine ⟨hop, fun m s1 hm => ?_, fun e hfault => ?_⟩
  · obtain ⟨t, hnext, (ha : t.a = g s.a m), hzn, hkeep⟩ := logicToA_of_read g hm
    exact ⟨t, hexec.trans hnext, fun k _ => by rw [ha, hg], ha ▸ hzn, hkeep⟩
  · rw [hexec, logicToA, hfault, andThen_error, finish_error]

/-- Settles O39: BIT writes `P` alone, three flags of it. -/
theorem bitTestsTheOperand : Obligations.BitTestsTheOperand := by
  refine fun i op mode hf s => ⟨hf.encode_head, fun m s1 hm => ?_, fun f hfault => ?_⟩
  · exact ⟨_, (exec_bitForm hf s).trans (bitTest_of_read hm), getFlag_bitFlags_zero .., getFlag_bitFlags_negative ..,
      getFlag_bitFlags_overflow .., setP_changesOnly _ _ s fun _ hg => getFlag_bitFlags_of_notMem _ _ _ hg⟩
  · rw [exec_bitForm hf, bitTest, hfault, andThen_error, finish_error]

/-- Settles O40: a comparison writes `P` alone, three flags of it. -/
theorem compareSetsThreeFlags : Obligations.CompareSetsThreeFlags := by
  refine fun i op r src hf s => ⟨hf.encode_head, fun m s1 hm => ?_, fun f hfault => ?_⟩
  · exact ⟨_, (exec_compareForm hf s).trans (compareReg_of_read r hm), getFlag_compareFlags_carry ..,
      getFlag_compareFlags_zero .., getFlag_compareFlags_negative ..,
      setP_changesOnly _ _ s fun _ hg => getFlag_compareFlags_of_notMem _ _ _ hg⟩
  · rw [exec_compareForm hf, compareReg, hfault, andThen_error, finish_error]

/-- Settles O41: one read, one write at the same address, then Z and N of the byte written. -/
theorem incDecMemoryWritesBack : Obligations.IncDecMemoryWritesBack := by
  intro i op mode d hf s
  obtain ⟨hop, hexec⟩ := exec_incDecForms hf s
  refine ⟨hop, addrOf mode s, effAddr_eq mode s, fun v s1 r hread hr => ?_, fun f hfault => ?_⟩
  · obtain rfl : r = v + BitVec.ofNat 8 d := BitVec.eq_of_toNat_eq (hr.trans (add_ofNat_toNat v d).symm)
    refine ⟨fun s2 hwrite => ?_, fun f hfault => ?_⟩
    · have hnext := stepMemory_of hread hwrite
      have hframe := (busRead_frame hread).trans (busWrite_frame hwrite)
      obtain ⟨hothers, hstored⟩ := busRead_storedAt_busWrite hread hwrite
      exact ⟨_, hexec.trans hnext, updateZN_followsZN _ s1,
        fun q _ => (State.setP_reg ..).trans (hframe.reg q), stepMemory_keepsFlags hnext, byte_setP _ s2,
        ⟨rfl, rfl, rfl, rfl, rfl, rfl⟩, rfl, hframe.pc, hframe.keepsRun,
        fun st k hk => (byte_setP ..).trans (hothers st k hk),
        fun st k hne hk => (byte_setP ..).trans (hstored st k hne hk)⟩
    · rw [hexec, stepMemory, modify_mem_write_error hread hfault, finish_error]
  · rw [hexec, stepMemory, modify_mem_read_error hfault, finish_error]

/-- Settles O42: a step of a register writes it as a transfer does. -/
theorem incDecRegisterWraps : Obligations.IncDecRegisterWraps := by
  refine fun i op r d hf s => ⟨hf.encode_head, ?_⟩
  obtain ⟨hr, hzn, hkeep⟩ := setReg_updateZN_takesValue r (s.reg r + BitVec.ofNat 8 d) s.w s
  refine ⟨_, exec_stepRegForm hf s, (congrArg _ hr).trans (add_ofNat_toNat ..), ?_, hkeep⟩
  rw [State.updateZN_reg, State.setReg_reg_same]
  exact hzn

end Sys2Proof.Machine
end

section
/-! Shifts and rotates (43_shift_rotate.md, R200 to R204): the shifted byte and the bit shifted out as numbers, the
flags, and what a memory byte written back leaves alone. -/

namespace Sys2Proof.Machine

/-! ### The shifted byte and the bit shifted out as numbers (R201 to R204) -/

section
variable (v : Byte) (c : Bool)

theorem shiftLeft_one_toNat : (v <<< 1).toNat = 2 * v.toNat % 256 := by
  rw [BitVec.toNat_shiftLeft, Nat.shiftLeft_eq, Nat.mul_comm]

theorem shiftRight_one_toNat : (v >>> 1).toNat = v.toNat / 2 := by
  rw [BitVec.toNat_ushiftRight, Nat.shiftRight_eq_div_pow]

theorem ofNat_carryNat_toNat : (BitVec.ofNat 8 (carryNat c)).toNat = carryNat c := by
  cases c <;> rfl

theorem ofNat_carryNat_shiftLeft_toNat : (BitVec.ofNat 8 (carryNat c) <<< 7).toNat = 2 ^ 7 * carryNat c := by
  cases c <;> rfl

/-- The shifted byte has bit 0 clear, so the old carry is added to it. -/
theorem rotateLeft_r_toNat : (rotateLeft v c).r.toNat = 2 * v.toNat % 256 + carryNat c := by
  have hc : carryNat c < 2 ^ 1 := Nat.lt_succ_of_le (carryNat_le_one c)
  have heven : 2 * v.toNat % 256 = 2 ^ 1 * (v.toNat % 128) := by omega
  rw [rotateLeft, BitVec.toNat_or, shiftLeft_one_toNat, ofNat_carryNat_toNat, heven, Nat.two_pow_add_eq_or_of_lt hc]

/-- The shifted byte has bit 7 clear, so 128 times the old carry is added to it. -/
theorem rotateRight_r_toNat : (rotateRight v c).r.toNat = v.toNat / 2 + 128 * carryNat c := by
  have hv : v.toNat / 2 < 2 ^ 7 := by omega
  rw [rotateRight, BitVec.toNat_or, shiftRight_one_toNat, ofNat_carryNat_shiftLeft_toNat, Nat.or_comm,
    ← Nat.two_pow_add_eq_or_of_lt hv, Nat.add_comm]

theorem ShiftKind.fn_r_toNat (k : ShiftKind) : (k.fn v c).r.toNat = k.result v.toNat (carryNat c) := by
  cases k with
  | asl => exact shiftLeft_one_toNat v
  | lsr => exact shiftRight_one_toNat v
  | rol => exact rotateLeft_r_toNat v c
  | ror => exact rotateRight_r_toNat v c

theorem getLsbD_seven : v.getLsbD 7 = decide (128 ≤ v.toNat) := BitVec.msb_eq_decide v

theorem getLsbD_zero : v.getLsbD 0 = decide (v.toNat % 2 = 1) := Nat.testBit_zero v.toNat

theorem ShiftKind.fn_c (k : ShiftKind) : (k.fn v c).c = k.out v.toNat := by
  cases k with
  | asl => exact getLsbD_seven v
  | rol => exact getLsbD_seven v
  | lsr => exact getLsbD_zero v
  | ror => exact getLsbD_zero v

end

/-! ### The flags that a shift writes (R200) -/

section
variable (p : Byte) (o : Shifted)

theorem getFlag_shiftFlags_carry : getFlag (shiftFlags p o) .c = o.c := by
  rw [shiftFlags, getFlag_setZN_other _ _ (by decide) (by decide), getFlag_putFlag_same]

theorem setP_shiftFlags_followsZN (s : State) : FollowsZN o.r.toNat (s.setP (shiftFlags p o)) :=
  ⟨getFlag_setZN_zero _ o.r, getFlag_setZN_negative _ o.r⟩

end

/-! ### A memory byte written back (R66) -/

/-- `t` is what the write of `r` at `a` leaves, with the PC and the run status of `s`; against `s` no byte changed but those
that the write stores to. -/
def WrittenBack (a : Word) (r : Byte) (s s2 t : State) : Prop :=
  KeepsBytes s2 t ∧ KeepsPeriph s2 t ∧ t.w = s2.w ∧ t.pc = s.pc ∧ KeepsRun s t ∧
    (∀ st k, ¬ storesTo a s st k → t.byte st k = s.byte st k) ∧
    (∀ st k, a.toNat ≠ 0x4014 → storesTo a s st k → t.byte st k = r)

section
variable {s s1 s2 : State} {v : Byte} {mode : AddrMode} {f : Fault}

theorem setP_writtenBack {a : Word} {r : Byte} (p : Byte) (hread : busRead a s = .ok (v, s1))
    (hwrite : busWrite a r s1 = .ok s2) : WrittenBack a r s s2 (s2.setP p) := by
  have hframe := (busRead_frame hread).trans (busWrite_frame hwrite)
  obtain ⟨hothers, hstored⟩ := busRead_storedAt_busWrite hread hwrite
  exact ⟨byte_setP p s2, ⟨rfl, rfl, rfl, rfl, rfl, rfl⟩, rfl, hframe.pc, hframe.keepsRun,
    fun st k hk => (byte_setP ..).trans (hothers st k hk), fun st k ha hk => (byte_setP ..).trans (hstored st k ha hk)⟩

theorem shiftTarget_mem_read_error (op : Byte → Bool → Shifted) (h : busRead (addrOf mode s) s = .error f) :
    shiftTarget op (.mem mode) s = .fault f := by
  rw [shiftTarget, modify_mem_read_error h, finish_error]

theorem shiftTarget_mem_write_error {op : Byte → Bool → Shifted} (h1 : busRead (addrOf mode s) s = .ok (v, s1))
    (h2 : busWrite (addrOf mode s) (op v (s1.flag .c)).r s1 = .error f) :
    shiftTarget op (.mem mode) s = .fault f := by
  rw [shiftTarget, modify_mem_write_error (value := fun v s1 => (op v (s1.flag .c)).r) h1 h2, finish_error]

/-- A read leaves the carry, so the byte with the number of R201 to R204 is the one that the shift writes. -/
theorem eq_fn_of_toNat_eq_result {a : Word} {k : ShiftKind} {r : Byte} (hread : busRead a s = .ok (v, s1))
    (hr : r.toNat = k.result v.toNat s.carry) : r = (k.fn v (s1.flag .c)).r := by
  have hcarry : s1.flag .c = s.flag .c := keepsFlags_of_p_eq (busRead_frame hread).p .c List.not_mem_nil
  apply BitVec.eq_of_toNat_eq
  rw [hr, k.fn_r_toNat, hcarry]
  rfl

end

theorem ShiftForm.encode_head {i : Instr} {op : Byte} {k : ShiftKind} {tg : Target} (h : ShiftForm i op k tg) :
    (encode i).head? = some op := by
  cases h <;> rfl

/-! ### The obligations -/

/-- Settles O43: the accumulator form writes `A` and `P` alone. -/
theorem shiftAccumulatorByOne : Obligations.ShiftAccumulatorByOne := by
  refine fun i op k hf s => ⟨hf.encode_head, _, (exec_shiftForm hf s).trans (shiftTarget_acc k.fn s),
    k.fn_r_toNat .., ?_, setP_shiftFlags_followsZN .., ?_⟩
  · exact (getFlag_shiftFlags_carry ..).trans (k.fn_c ..)
  · exact setA_setP_changesOnly _ _ s.w s fun _ hg => getFlag_shiftFlags_of_notMem _ _ hg

/-- Settles O44: one read, one write at the same address, then C, Z and N. -/
theorem shiftMemoryByOne : Obligations.ShiftMemoryByOne := by
  refine fun i op k mode hf s =>
    ⟨hf.encode_head, addrOf mode s, effAddr_eq mode s, fun v s1 r hread hr => ?_, fun f hfault => ?_⟩
  · obtain rfl := eq_fn_of_toNat_eq_result hread hr
    refine ⟨fun s2 hwrite => ?_, fun f hfault => ?_⟩
    · have hnext := shiftTarget_mem_of hread hwrite
      have hframe := (busRead_frame hread).trans (busWrite_frame hwrite)
      exact ⟨_, (exec_shiftForm hf s).trans hnext, (getFlag_shiftFlags_carry ..).trans (k.fn_c ..),
        setP_shiftFlags_followsZN .., fun q _ => (State.setP_reg ..).trans (hframe.reg q),
        shiftTarget_keepsFlags hnext, setP_writtenBack _ hread hwrite⟩
    · exact (exec_shiftForm hf s).trans (shiftTarget_mem_write_error hread hfault)
  · exact (exec_shiftForm hf s).trans (shiftTarget_mem_read_error k.fn hfault)

end Sys2Proof.Machine
end

section
/-! Jumps, call and return, branches (44_control_flow.md, R210 to R221), and the round trips through the stack array: the
exact next state of each transfer, what a 16-bit push leaves alone, and the return address as a pull gives it back. -/

namespace Sys2Proof.Machine

/-! ### What stays when `PC` and `SP` are written -/

section
variable (n : Word) (sp : Byte) (s : State)

@[simp] theorem byte_setPc (st : Store) (k : Nat) : (s.setPc n).byte st k = s.byte st k := by
  cases st <;> rfl

theorem setPc_keepsRest {t : State} (h : KeepsRest s t) : KeepsRest s (t.setPc n) :=
  ⟨fun st k => (byte_setPc n t st k).trans (h.1 st k), h.2⟩

theorem setSp_keepsRest : KeepsRest s (s.setSp sp) :=
  ⟨byte_setSp sp s, ⟨rfl, rfl, rfl, rfl, rfl, rfl⟩, rfl, rfl, rfl, rfl, rfl⟩

end

/-! ### The next states (R210 to R213) -/

section
variable {ptr target : Word} {s s1 : State} {f : Fault}

/-- The pointer reads leave at most the toggle changed. -/
theorem exec_jmpInd_of_target (h : indirectTarget ptr s = .ok (target, s1)) :
    exec (.jmpInd ptr) s = .next ((s.setW s1.w).setPc target) := by
  rw [← indirectTarget_ok h, exec, execJmpInd, h, andThen_ok, finish_ok]

theorem exec_jmpInd_of_error (h : indirectTarget ptr s = .error f) : exec (.jmpInd ptr) s = .fault f := by
  rw [exec, execJmpInd, h, andThen_error, finish_error]

end

theorem exec_jsr (addr : Word) (s : State) : exec (.jsr addr) s = .next ((pushWord (s.pc + 1) s).setPc addr) := rfl

theorem exec_rts (s : State) : exec .rts s = .next ((pullWord s).2.setPc ((pullWord s).1 + 1)) := rfl

/-- BRK's return address `a0 + 2` is `pc0 + 1` (D6). -/
theorem exec_brk (s : State) : exec .brk s =
    .next (((push s.p (pushWord (s.pc + 1) s)).setPc (breakTarget s)).setFlag .b true) := by
  have hret : s.pc - 1 + Config.brkRet = s.pc + 1 := by rw [Config.brkRet]; bv_omega
  rw [exec, execBrk, hret, takeBreak_eq, finish_ok]

/-- R132: the target of a branch is the sum of the integers, modulo 65536. -/
theorem branchTarget_eq_ofInt (pc0 : Word) (rel : Byte) :
    branchTarget pc0 rel = BitVec.ofInt 16 (pc0.toNat + 1 + rel.toInt) := by
  rw [branchTarget, sext, BitVec.signExtend, BitVec.ofInt_add, BitVec.ofInt_add, BitVec.ofInt_natCast,
    BitVec.ofNat_toNat, BitVec.setWidth_eq]
  rfl

theorem BranchForm.encode_eq {i : Instr} {op : Byte} {f : Flag} {v : Bool} {rel : Byte}
    (h : BranchForm i op f v rel) : encode i = [op, rel] := by
  cases h <;> rfl

/-! ### Two bytes pushed and pulled (R138 to R140) -/

section
variable (n : Word) (s : State)

theorem pushWord_keepsBytes (st : Store) (k : Nat)
    (h : ¬(st = .stack ∧ (k = s.sp.toNat ∨ k = (s.sp - 1).toNat))) : (pushWord n s).byte st k = s.byte st k :=
  calc (pushWord n s).byte st k
    _ = (push (hiByte n) s).byte st k := push_keepsBytesBut _ _ st k fun ⟨hst, hk⟩ => h ⟨hst, .inr hk⟩
    _ = s.byte st k := push_keepsBytesBut _ _ st k fun ⟨hst, hk⟩ => h ⟨hst, .inl hk⟩

theorem pushWord_keepsRegs : KeepsRegs [.sp] s (pushWord n s) := fun r hr =>
  (push_keepsRegs (loByte n) (push (hiByte n) s) r hr).trans (push_keepsRegs (hiByte n) s r hr)

theorem pushWord_cpuOnly : CpuOnly s (pushWord n s) := ((CpuOnly.refl s).push _).push _

theorem pullWord_fst_toNat :
    (pullWord s).1.toNat = wordOf (s.byte .stack (s.sp + 2).toNat) (s.byte .stack (s.sp + 1).toNat) := by
  rw [pullWord_fst, mkWord_toNat, BitVec.add_assoc]
  rfl

/-- A byte pushed and pulled again leaves the two bytes above it. -/
theorem pullWord_pull_push (v : Byte) : (pullWord (pull (push v s)).2).1 = (pullWord s).1 := by
  have hsp : s.sp - 1 + 1 = s.sp := BitVec.sub_add_cancel s.sp 1
  have hlow : (s.sp + 1).toNat ≠ s.sp.toNat := by bv_omega
  have hhigh : (s.sp + 1 + 1).toNat ≠ s.sp.toNat := by bv_omega
  rw [pullWord_fst, pullWord_fst, pull_snd, State.setSp_sp, State.setSp_stack, push_sp, hsp, read_push, read_push,
    if_neg hhigh, if_neg hlow]

end

/-! ### The round trips -/

section
variable (s : State) (q : Word)

/-- R211, R212: the pull gives back the word that the call pushed. -/
theorem exec_rts_after_jsr (addr : Word) : ∃ t u, exec (.jsr addr) s = .next t ∧
    exec .rts { t with pc := q } = .next u ∧ u.pc = s.pc + 2 ∧ u.sp = s.sp := by
  obtain ⟨hret, hsp⟩ := pullWord_pushWord (s.pc + 1) s
  refine ⟨_, _, exec_jsr addr s, exec_rts _, ?_, hsp⟩
  calc (pullWord (pushWord (s.pc + 1) s)).1 + 1
    _ = s.pc + 1 + 1 := by rw [hret]
    _ = s.pc + 2 := BitVec.add_assoc s.pc 1 1

/-- R244: `P` was pushed last and comes off first, the return address after it. -/
theorem returnFromBreak_push (v : Byte) : (returnFromBreak (push v s)).pc = (pullWord s).1 ∧
    (returnFromBreak (push v s)).p = v ∧ (returnFromBreak (push v s)).sp = (pullWord s).2.sp :=
  ⟨pullWord_pull_push s v, (pull_push v s).1, congrArg (· + 1 + 1) (pull_push v s).2⟩

/-- The trap return reads the stack array and `SP` alone. -/
theorem returnFromBreak_congr {t u : State} (hstack : t.stack = u.stack) (hsp : t.sp = u.sp) :
    (returnFromBreak t).pc = (returnFromBreak u).pc ∧ (returnFromBreak t).p = (returnFromBreak u).p ∧
      (returnFromBreak t).sp = (returnFromBreak u).sp := by
  simp [returnFromBreak_eq, hstack, hsp]

/-- A trap return on the stack array and `SP` that a trap left gives back what the trap pushed. -/
theorem returnFromBreak_of_pushed {t : State} {v : Byte} {n : Word} (hstack : t.stack = (push v (pushWord n s)).stack)
    (hsp : t.sp = (push v (pushWord n s)).sp) :
    (returnFromBreak t).pc = n ∧ (returnFromBreak t).p = v ∧ (returnFromBreak t).sp = s.sp := by
  obtain ⟨hpc, hp, hsp'⟩ := returnFromBreak_push (pushWord n s) v
  obtain ⟨hret, hretSp⟩ := pullWord_pushWord n s
  obtain ⟨hpcEq, hpEq, hspEq⟩ := returnFromBreak_congr hstack hsp
  exact ⟨hpcEq.trans (hpc.trans hret), hpEq.trans hp, hspEq.trans (hsp'.trans hretSp)⟩

/-- R243, R244. -/
theorem exec_rti_after_brk : ∃ t u, exec .brk s = .next t ∧
    exec .rti { t with pc := q } = .next u ∧ u.pc = s.pc + 1 ∧ u.p = s.p ∧ u.sp = s.sp :=
  ⟨_, _, exec_brk s, rfl, returnFromBreak_of_pushed s rfl rfl⟩

/-- R230, R232. -/
theorem exec_pla_after_pha (v : Byte) : ∃ t u, exec .pha s = .next t ∧
    exec .pla { t with a := v } = .next u ∧ u.a = s.a ∧ u.x = s.x ∧ u.y = s.y ∧ u.sp = s.sp := by
  obtain ⟨ha, hsp⟩ := pull_push s.a s
  exact ⟨_, _, rfl, rfl, ha, rfl, rfl, hsp⟩

end

/-! ### The obligations -/

/-- Settles O46: JSR by the frame of its 16-bit push, RTS by the word its pull gives. -/
theorem callPushesAndReturnPulls : Obligations.CallPushesAndReturnPulls := by
  refine ⟨fun addr s => ⟨rfl, _, exec_jsr addr s, ?_⟩, fun s => ⟨rfl, _, exec_rts s, ?_⟩⟩
  · refine ⟨rfl, BitVec.sub_sub s.sp 1 1, ?_, fun st k hk => ?_, fun r hr => ?_, keepsFlags_of_p_eq rfl,
      ((pushWord_cpuOnly _ s).setPc addr).keepsPeriph, rfl, (exec_frame (exec_jsr addr s)).run⟩
    · rw [byte_setPc, byte_setPc, wordOf_pushWord, BitVec.toNat_add]
      rfl
    · rw [byte_setPc, pushWord_keepsBytes _ _ st k hk]
    · rw [State.setPc_reg, pushWord_keepsRegs _ _ r hr]
  · refine ⟨?_, BitVec.add_assoc s.sp 1 1, fun r hr => ?_, keepsFlags_of_p_eq rfl,
      setPc_keepsRest _ s (setSp_keepsRest _ s), rfl⟩
    · rw [State.setPc_pc, BitVec.toNat_add, pullWord_fst_toNat]
      rfl
    · rw [State.setPc_reg]
      exact setReg_keepsRegs .sp _ s r hr

/-- Settles O47: one meaning for the eight branches, and the target as an integer sum. -/
theorem branchTestsItsFlag : Obligations.BranchTestsItsFlag := by
  refine fun i op f v rel hf s => ⟨hf.encode_eq, fun htaken => ?_, fun hnot => ?_⟩
  · rw [exec_branchForm hf, branchIf, if_pos htaken, branchTarget_eq_ofInt]
    rfl
  · rw [exec_branchForm hf, branchIf, if_neg hnot]

/-- Settles O53: the three round trips. -/
theorem callTrapAndPushRoundTrip : Obligations.CallTrapAndPushRoundTrip := fun s q addr v =>
  ⟨exec_rts_after_jsr s q addr, exec_rti_after_brk s q, exec_pla_after_pha s v⟩

/-- Settles O45: an absolute jump writes `PC` alone, an indirect one besides the toggle that its pointer reads leave. -/
theorem jmpGoesToItsTarget : Obligations.JmpGoesToItsTarget := by
  refine ⟨fun _ _ => ⟨rfl, rfl⟩, fun ptr s => ⟨rfl, fun target s1 h => ?_, fun f h => exec_jmpInd_of_error h⟩⟩
  refine ⟨_, exec_jmpInd_of_target h, rfl, fun r _ => ?_, keepsFlags_of_p_eq rfl,
    setPc_keepsRest _ s (setW_keepsRest _ s), rfl⟩
  rw [State.setPc_reg, State.setW_reg]

end Sys2Proof.Machine
end

section
/-! Stack, flag and system instructions (45_stack_flags_system.md, R230 to R244): what one byte pushed and one register
written leave alone, `P` as the sum of its flags, and the three bytes that the trap puts on the stack array. -/

namespace Sys2Proof.Machine

/-! ### What stays when one byte is pushed or a register is written -/

section
variable (v : Byte) (s : State)

theorem push_keepsPeriph : KeepsPeriph s (push v s) := ((CpuOnly.refl s).push v).keepsPeriph

theorem push_keepsRun : KeepsRun s (push v s) := ((InstrFrame.refl s).push v).run

@[simp] theorem byte_setFlag (f : Flag) (b : Bool) (st : Store) (k : Nat) :
    (s.setFlag f b).byte st k = s.byte st k :=
  byte_setP _ s st k

variable (r : Reg)

@[simp] theorem byte_setReg (st : Store) (k : Nat) : (s.setReg r v).byte st k = s.byte st k := by
  cases r <;> cases st <;> rfl

theorem setReg_keepsRest {t : State} (h : KeepsRest s t) : KeepsRest s (t.setReg r v) := by
  refine ⟨fun st k => (byte_setReg v t r st k).trans (h.1 st k), ?_⟩
  cases r <;> exact h.2

end

/-! ### The bits of `P` (R24) -/

theorem carryNat_getFlag (p : Byte) (f : Flag) : carryNat (getFlag p f) = p.toNat / 2 ^ f.bit % 2 := by
  have hnat (c : Bool) : carryNat c = c.toNat := by cases c <;> rfl
  rw [hnat, getFlag, BitVec.getLsbD, Nat.toNat_testBit]

/-- A byte is the sum of its eight binary digits, each at the place of its flag. -/
theorem toNat_eq_sum_flags (p : Byte) : p.toNat = carryNat (getFlag p .c) + 2 * carryNat (getFlag p .z) +
    4 * carryNat (getFlag p .i) + 8 * carryNat (getFlag p .d) + 16 * carryNat (getFlag p .b) +
    32 * carryNat (getFlag p .u) + 64 * carryNat (getFlag p .v) + 128 * carryNat (getFlag p .n) := by
  have hlt : p.toNat < 256 := p.isLt
  simp only [carryNat_getFlag, Flag.bit]
  omega

theorem FlagForm.encode_eq {i : Instr} {op : Byte} {f : Flag} {v : Bool} (h : FlagForm i op f v) : encode i = [op] := by
  cases h <;> rfl

/-! ### The next states of the pulls (R232, R233, R244) -/

section
variable (s : State)

theorem exec_pla : exec .pla s = .next (((s.setSp (s.sp + 1)).setA (s.byte .stack (s.sp + 1).toNat)).updateZN
    (s.byte .stack (s.sp + 1).toNat)) := rfl

theorem exec_plp : exec .plp s = .next ((s.setSp (s.sp + 1)).setP (s.byte .stack (s.sp + 1).toNat)) := rfl

theorem exec_rti : exec .rti s = .next (((s.setSp (s.sp + 3)).setP (s.byte .stack (s.sp + 1).toNat)).setPc
    (mkWord (s.byte .stack (s.sp + 3).toNat) (s.byte .stack (s.sp + 2).toNat))) := by
  have htwo : s.sp + 1 + 1 = s.sp + 2 := BitVec.add_assoc s.sp 1 1
  have hthree : s.sp + 2 + 1 = s.sp + 3 := BitVec.add_assoc s.sp 2 1
  rw [exec, execRti, returnFromBreak_eq, htwo, hthree]
  rfl

end

/-! ### The three bytes of the trap (R243, R267) -/

section
variable (v : Byte) (n : Word) (s : State)

theorem breakTarget_toNat : (breakTarget s).toNat =
    wordOf (s.byte .prg (0x7FFF % s.prgSize.bytes)) (s.byte .prg (0x7FFE % s.prgSize.bytes)) :=
  mkWord_toNat _ _

/-- The third byte pushed leaves the word pushed before it. -/
theorem wordOf_push_pushWord : wordOf ((push v (pushWord n s)).byte .stack s.sp.toNat)
    ((push v (pushWord n s)).byte .stack (s.sp - 1).toNat) = n.toNat := by
  have hhigh : s.sp.toNat ≠ (pushWord n s).sp.toNat := by rw [pushWord_sp]; bv_omega
  have hlow : (s.sp - 1).toNat ≠ (pushWord n s).sp.toNat := sp_toNat_ne_sub_one (push (hiByte n) s)
  rw [push_keepsBytesBut _ _ _ _ fun h => hhigh h.2, push_keepsBytesBut _ _ _ _ fun h => hlow h.2, wordOf_pushWord]

theorem pushWord_sp_eq_sub_two : (pushWord n s).sp = s.sp - 2 := BitVec.sub_sub s.sp 1 1

theorem push_pushWord_sp : (push v (pushWord n s)).sp = s.sp - 3 :=
  (congrArg (· - 1) (pushWord_sp_eq_sub_two n s)).trans (BitVec.sub_sub s.sp 2 1)

theorem byte_push_pushWord : (push v (pushWord n s)).byte .stack (s.sp - 2).toNat = v := by
  rw [← pushWord_sp_eq_sub_two n s, byte_push_same]

theorem push_pushWord_keepsBytes (st : Store) (k : Nat)
    (h : ¬(st = .stack ∧ (k = s.sp.toNat ∨ k = (s.sp - 1).toNat ∨ k = (s.sp - 2).toNat))) :
    (push v (pushWord n s)).byte st k = s.byte st k := by
  have hword : ¬(st = .stack ∧ (k = s.sp.toNat ∨ k = (s.sp - 1).toNat)) :=
    fun ⟨hst, hk⟩ => h ⟨hst, hk.imp_right .inl⟩
  have hthird : ¬(st = .stack ∧ k = (pushWord n s).sp.toNat) := by
    rw [pushWord_sp_eq_sub_two]
    exact fun ⟨hst, hk⟩ => h ⟨hst, .inr (.inr hk)⟩
  rw [push_keepsBytesBut _ _ st k hthird, pushWord_keepsBytes _ _ st k hword]

end

/-! ### The obligations -/

/-- Settles O48: PHA by the frame of a push, PLA by the register written with Z and N after it. -/
theorem phaPlaMoveTheAccumulator : Obligations.PhaPlaMoveTheAccumulator := by
  refine fun s => ⟨rfl, rfl,
    ⟨push s.a s, rfl, byte_push_same _ s, rfl, push_keepsBytesBut _ s, push_keepsRegs _ s, keepsFlags_of_p_eq rfl,
      push_keepsPeriph _ s, rfl, rfl, push_keepsRun _ s⟩,
    _, exec_pla s, rfl, rfl, updateZN_followsZN _ _, fun r hr => ?_, updateZN_keepsFlags _ _,
    setP_keepsRest _ s (setReg_keepsRest _ s .a (setSp_keepsRest _ s)), rfl, rfl⟩
  have hne : r ≠ .a ∧ r ≠ .sp := by simpa using hr
  rw [State.updateZN_reg]
  exact (State.setReg_reg_other _ .a r _ hne.1).trans (State.setReg_reg_other s .sp r _ hne.2)

/-- Settles O49: PHP by the frame of a push, PLP as the exact next state, `P` by its binary digits. -/
theorem phpPlpMoveAllOfP : Obligations.PhpPlpMoveAllOfP := by
  refine fun s => ⟨rfl, rfl, toNat_eq_sum_flags s.p,
    ⟨push s.p s, rfl, byte_push_same _ s, rfl, push_keepsBytesBut _ s, push_keepsRegs _ s, rfl, push_keepsPeriph _ s,
      rfl, rfl, push_keepsRun _ s⟩,
    _, exec_plp s, rfl, rfl, fun r hr => ?_, setP_keepsRest _ s (setSp_keepsRest _ s), rfl, rfl⟩
  rw [State.setP_reg]
  exact setReg_keepsRegs .sp _ s r hr

/-- Settles O50: one meaning for the seven flag instructions, a flag write, which leaves the other seven flags. -/
theorem flagInstructionsWriteOneFlag : Obligations.FlagInstructionsWriteOneFlag := by
  refine ⟨fun i op f v hf s => ?_, fun s => ⟨rfl, rfl⟩⟩
  have hother : ∀ g, g ∉ [f] → getFlag (putFlag s.p f v) g = getFlag s.p g :=
    fun g hg => getFlag_putFlag_other s.p v (List.ne_of_not_mem_cons hg)
  obtain ⟨hregs, hflags, hrest, hw, hpc⟩ := setP_changesOnly (putFlag s.p f v) s.w s hother
  exact ⟨hf.encode_eq, _, exec_flagForm hf s, getFlag_putFlag_same s.p f v, hflags, hregs, hrest, hw, hpc⟩

/-- Settles O51: the exact next state of the trap entry, and its three pushed bytes. -/
theorem brkTakesTheTrap : Obligations.BrkTakesTheTrap := by
  intro s
  refine ⟨rfl, _, exec_brk s, breakTarget_toNat s, ?_, ?_, ?_,
    getFlag_putFlag_same _ .b true, execBrk_keepsFlags (exec_brk s), fun r hr => ?_, fun st k hk => ?_,
    ((((pushWord_cpuOnly _ s).push _).setPc _).setP _).keepsPeriph, rfl, (exec_frame (exec_brk s)).run⟩
  · rw [State.setFlag_sp, State.setPc_sp, push_pushWord_sp]
  · rw [byte_setFlag, byte_setFlag, byte_setPc, byte_setPc, wordOf_push_pushWord, BitVec.toNat_add]
    rfl
  · rw [byte_setFlag, byte_setPc, byte_push_pushWord]
  · rw [State.setFlag_reg, State.setPc_reg, push_keepsRegs _ _ r hr, pushWord_keepsRegs _ s r hr]
  · rw [byte_setFlag, byte_setPc, push_pushWord_keepsBytes _ _ s st k hk]

/-- Settles O52: the exact next state of the trap return, a pull of `P` and of the word above it. -/
theorem rtiReturnsFromTheTrap : Obligations.RtiReturnsFromTheTrap := by
  refine fun s => ⟨rfl, _, exec_rti s, rfl, ?_, rfl, fun r hr => ?_,
    setPc_keepsRest _ s (setP_keepsRest _ s (setSp_keepsRest _ s)), rfl⟩
  · rw [State.setPc_pc, mkWord_toNat, wordOf]
  · rw [State.setPc_reg, State.setP_reg]
    exact setReg_keepsRegs .sp _ s r hr

end Sys2Proof.Machine
end

section
/-! Which instructions always complete, and that nothing is refused (60_exceptions.md, R262): an instruction of one byte
accesses the bus for no data, but BRK for its vector in ROM; and every instruction ends in a next state or a fault. -/

namespace Sys2Proof.Machine

/-! ### Completion -/

theorem exec_branch_answers {i : Instr} {op : Byte} {f : Flag} {v : Bool} {rel : Byte} (h : BranchForm i op f v rel)
    (s : State) : ∃ t, exec i s = .next t := by
  obtain ⟨target, ht⟩ := branchIf_next f v rel s
  exact ⟨_, (exec_branchForm h s).trans ht⟩

/-- An instruction of one byte completes in every state: it works on registers, flags and the stack array alone, and the
vector that BRK reads is in ROM. -/
theorem exec_answers_of_one_byte {i : Instr} (h : (encode i).length = 1) (s : State) : ∃ t, exec i s = .next t := by
  cases shape_of i with
  | transfer hf => exact ⟨_, exec_transferForm hf s⟩
  | stepReg hf => exact ⟨_, exec_stepRegForm hf s⟩
  | @shift _ _ k tg hf =>
    cases tg with
    | acc => exact ⟨_, (exec_shiftForm hf s).trans (shiftTarget_acc k.fn s)⟩
    | mem mode => cases hf <;> cases h
  | flagOp hf => exact ⟨_, exec_flagForm hf s⟩
  | brk => exact ⟨_, exec_brk s⟩
  | txs | rts | pha | php | pla | plp | nop | rti => exact ⟨_, rfl⟩
  -- The other shapes encode at least one operand byte.
  | load hf | store hf | adc hf | sbc hf | and hf | ora hf | eor hf | bit hf | compare hf | inc hf | dec hf | branch hf =>
    cases hf <;> cases h
  | jmpAbs | jmpInd | jsr => cases h

/-! ### No refusal -/

/-- Every instruction ends as `finish` does: with a next state or with a fault. -/
theorem exec_eq_finish (i : Instr) (s : State) : ∃ r, exec i s = finish r := by
  cases shape_of i with
  | load hf => exact ⟨_, exec_loadForm hf s⟩
  | store hf => exact ⟨_, exec_storeForm hf s⟩
  | transfer hf => exact ⟨.ok _, exec_transferForm hf s⟩
  | adc hf => exact ⟨_, exec_adcForm hf s⟩
  | sbc hf => exact ⟨_, exec_sbcForm hf s⟩
  | and hf => exact ⟨_, exec_andForm hf s⟩
  | ora hf => exact ⟨_, exec_oraForm hf s⟩
  | eor hf => exact ⟨_, exec_eorForm hf s⟩
  | bit hf => exact ⟨_, exec_bitForm hf s⟩
  | compare hf => exact ⟨_, exec_compareForm hf s⟩
  | inc hf => exact ⟨_, exec_incForm hf s⟩
  | dec hf => exact ⟨_, exec_decForm hf s⟩
  | stepReg hf => exact ⟨.ok _, exec_stepRegForm hf s⟩
  | shift hf => exact ⟨_, exec_shiftForm hf s⟩
  | branch hf =>
    obtain ⟨t, ht⟩ := exec_branch_answers hf s
    exact ⟨.ok t, ht⟩
  | flagOp hf => exact ⟨.ok _, exec_flagForm hf s⟩
  | jmpInd ptr => exact ⟨_, rfl⟩
  | brk => exact ⟨.ok _, exec_brk s⟩
  | txs | jmpAbs | jsr | rts | pha | php | pla | plp | nop | rti => exact ⟨.ok _, rfl⟩

theorem exec_ne_refused (i : Instr) (s : State) (r : Refusal) : exec i s ≠ .refused r := by
  obtain ⟨x, hx⟩ := exec_eq_finish i s
  rw [hx]
  cases x <;> nofun

/-- The auto-advance refuses nothing that was not refused before it. -/
theorem autoAdvance_eq_refused {op : Byte} {pc0 : Word} {x : Result} {r : Refusal}
    (h : autoAdvance op pc0 x = .refused r) : x = .refused r := by
  cases x with
  | next t => rw [autoAdvance] at h; split at h <;> cases h
  | fault f => cases h
  | refused q => exact h

theorem step_ne_refused (s : State) (r : Refusal) : step s ≠ .refused r := by
  intro h
  unfold step at h
  split at h
  · cases h
  · split at h
    · cases h
    · exact exec_ne_refused _ _ r (autoAdvance_eq_refused h)

/-- Settles O57: completion by the shape of the instruction; a refusal is no end of an instruction, and neither the fetch
nor the auto-advance makes one. -/
theorem impliedInstructionsNeverFault : Obligations.ImpliedInstructionsNeverFault := by
  refine fun i s => ⟨?_, exec_ne_refused i s, step_ne_refused s⟩
  rintro (hone | ⟨op, f, v, rel, hf⟩ | ⟨addr, rfl | rfl⟩)
  · exact exec_answers_of_one_byte hone s
  · exact exec_branch_answers hf s
  · exact ⟨_, exec_jsr addr s⟩
  · exact ⟨_, rfl⟩

end Sys2Proof.Machine
end

section
/-! The host's moves (70_reset_and_hazards.md, R290 to R298): what `load` installs and when it refuses, what a cartridge
file's header and length decide, and what `reset()` leaves. -/

namespace Sys2Proof.Machine

/-- Settles O58: the seeding of the registers, which is all of `reset()`, as one record update. -/
theorem hostResetZeroesRegistersOnly : Obligations.HostResetZeroesRegistersOnly :=
  fun s => ⟨_, hostReset_eq s, resetTarget_toNat s, rfl⟩

/-! ### Installing a cartridge (R291, R294) -/

/-- The store made of given bytes reads as those bytes. -/
theorem getElem?_eq_read_ofBytes {bs : List Byte} {k : Nat} (h : k < bs.length) :
    bs[k]? = some (Memory.read (Memory.ofBytes 0 bs) k) := by
  rw [Memory.read_ofBytes, if_pos (Nat.zero_le k), Nat.sub_zero, List.getD_eq_getElem _ _ h,
    List.getElem?_eq_getElem h]

/-- A cartridge of the sizes it is installed with fills canonical stores (log entry 8). -/
theorem installed_wf {rom : Cartridge} {prgSize : PrgSize} {chrSize : ChrSize} {init : InitMem} (vs : List Byte)
    (hp : rom.prg.length = prgSize.bytes) (hc : rom.chr.length = chrSize.bytes) (h : init.wf = true) :
    (installed rom prgSize chrSize init vs).wf = true := by
  simp only [InitMem.wf, Bool.and_eq_true, and_assoc] at h
  obtain ⟨hstack, hwram, hcram, hoam, hvram, hpal⟩ := h
  rw [State.wf_iff]
  exact ⟨hstack, hwram, hcram, Memory.wfFrom_ofBytes rom.prg 0 _ ((Nat.zero_add _).trans hp).le,
    Memory.wfFrom_ofBytes rom.chr 0 _ ((Nat.zero_add _).trans hc).le, hoam, hvram, hpal⟩

/-- Settles O59: admitted lengths are those of the sizes installed, and the seeding of the registers touches no store. -/
theorem loadInstallsTheCartridge : Obligations.LoadInstallsTheCartridge := by
  refine fun rom init vs => ⟨fun hs => ?_, fun hs => ?_⟩
  · obtain ⟨prgSize, chrSize, hp, hc⟩ := rom.sized_iff.mp hs
    exact ⟨_, (load_of_lengths init vs hp hc).trans (seedRegisters_eq _), installed_wf vs hp hc,
      fun _ => getElem?_eq_read_ofBytes, fun _ => getElem?_eq_read_ofBytes, hp.symm, hc.symm,
      rfl, rfl, rfl, rfl, rfl, rfl, rfl, rfl, rfl, rfl, rfl, rfl, rfl, rfl, rfl, rfl, rfl, rfl, rfl, rfl, rfl,
      resetTarget_toNat _⟩
  · obtain ⟨prgSize, chrSize, hp, hc, _⟩ | ⟨_, hr⟩ := load_cases rom init vs
    · exact absurd (rom.sized_iff.mpr ⟨prgSize, chrSize, hp, hc⟩) hs
    · exact hr

/-! ### The header's bytes (R292, D23) -/

/-- The mapper number's high digit is that of byte 7, its low digit the high digit of byte 6. -/
theorem mapperNumber_toNat (b6 b7 : Byte) :
    (mapperNumber b6 b7).toNat = b7.toNat / 16 * 16 + b6.toNat / 16 := by
  have high : (b7 &&& (0xF0 : Byte)).toNat = (b7.toNat / 16) <<< 4 := by
    have mask : b7 &&& (0xF0 : Byte) = (b7 >>> 4) <<< 4 := (BitVec.shiftLeft_ushiftRight (x := b7) (n := 4)).symm
    have := b7.isLt
    simp only [mask, BitVec.toNat_shiftLeft, BitVec.toNat_ushiftRight, Nat.shiftLeft_eq, Nat.shiftRight_eq_div_pow]
    omega
  have low : b6.toNat / 16 < 2 ^ 4 := by have := b6.isLt; omega
  rw [mapperNumber, BitVec.toNat_or, high, BitVec.toNat_ushiftRight, Nat.shiftRight_eq_div_pow,
    ← Nat.shiftLeft_add_eq_or_of_lt low, Nat.shiftLeft_eq]

theorem mapperNumber_eq_of_toNat {b6 b7 n : Byte} (h : n.toNat = b7.toNat / 16 * 16 + b6.toNat / 16) :
    mapperNumber b6 b7 = n := BitVec.eq_of_toNat_eq ((mapperNumber_toNat b6 b7).trans h.symm)

/-- The cartridge a file holds for the size and mapper bytes `b4`, `b5` and `b6` of its header (R292, R294). -/
def fileCartridge (b4 b5 b6 : Byte) (file : List Byte) : Cartridge where
  prg := (file.drop (bodyStart b6)).take (16384 * b4.toNat)
  chr := ((file.drop (bodyStart b6)).drop (16384 * b4.toNat)).take (8192 * b5.toNat)

section
variable {file : List Byte} {b4 b5 b6 b7 : Byte} {rest : List Byte} {init : InitMem} {vs : List Byte}

/-! ### The cartridge in a file -/

theorem fileCartridge_prg_length (h : 16384 * b4.toNat + 8192 * b5.toNat ≤ file.length - bodyStart b6) :
    (fileCartridge b4 b5 b6 file).prg.length = 16384 * b4.toNat := by
  simp only [fileCartridge, List.length_take, List.length_drop]
  omega

theorem fileCartridge_chr_length (h : 16384 * b4.toNat + 8192 * b5.toNat ≤ file.length - bodyStart b6) :
    (fileCartridge b4 b5 b6 file).chr.length = 8192 * b5.toNat := by
  simp only [fileCartridge, List.length_take, List.length_drop]
  omega

theorem fileCartridge_prg_getElem? {k : Nat} (h : k < 16384 * b4.toNat) :
    (fileCartridge b4 b5 b6 file).prg[k]? = file[bodyStart b6 + k]? := by
  rw [fileCartridge, List.getElem?_take_of_lt h, List.getElem?_drop]

theorem fileCartridge_chr_getElem? {k : Nat} (h : k < 8192 * b5.toNat) :
    (fileCartridge b4 b5 b6 file).chr[k]? = file[bodyStart b6 + 16384 * b4.toNat + k]? := by
  rw [fileCartridge, List.getElem?_take_of_lt h, List.getElem?_drop, List.getElem?_drop, Nat.add_assoc]

/-- A cartridge cut out of a long enough file is of admitted lengths when the header's counts are (R294, D19). -/
theorem fileCartridge_sized_iff (h : 16384 * b4.toNat + 8192 * b5.toNat ≤ file.length - bodyStart b6) :
    (fileCartridge b4 b5 b6 file).sized ↔ (b4 = 1 ∨ b4 = 2) ∧ (b5 = 0 ∨ b5 = 1) := by
  rw [Cartridge.sized, fileCartridge_prg_length h, fileCartridge_chr_length h]
  bv_omega

/-! ### The checks, in the order of D23 -/

theorem loadFile_of_wrong_magic (h : file.take 4 ≠ Config.magic) : loadFile file init vs = .fault .badMagic := by
  rw [loadFile, parseCartridge, if_pos h]

section
variable (hm : file.take 4 = Config.magic) (hd : file.drop 4 = b4 :: b5 :: b6 :: b7 :: rest)
include hm hd

/-- What the checks after the magic answer for the size and mapper bytes of a header. -/
theorem parseCartridge_of_header : parseCartridge file =
    if mapperNumber b6 b7 ≠ Config.directMapper then .fault (.unsupportedMapper (mapperNumber b6 b7))
    else cutCartridge (16384 * b4.toNat) (8192 * b5.toNat) (file.drop (bodyStart b6)) := by
  rw [parseCartridge, if_neg (not_not.mpr hm), hd, ← cartridgeBody_eq]

theorem loadFile_of_mapper (h : mapperNumber b6 b7 ≠ Config.directMapper) :
    loadFile file init vs = .fault (.unsupportedMapper (mapperNumber b6 b7)) := by
  rw [loadFile, parseCartridge_of_header hm hd, if_pos h]

variable (h0 : mapperNumber b6 b7 = Config.directMapper)
include h0

theorem loadFile_of_truncated (h : file.length - bodyStart b6 < 16384 * b4.toNat + 8192 * b5.toNat) :
    loadFile file init vs = .refused .cartridgeTruncated := by
  rw [loadFile, parseCartridge_of_header hm hd, if_neg (not_not.mpr h0), cutCartridge, List.length_drop, if_pos h]

/-- A file with enough bytes after its header and trainer is loaded as the cartridge in it. -/
theorem loadFile_eq_load (h : 16384 * b4.toNat + 8192 * b5.toNat ≤ file.length - bodyStart b6) :
    loadFile file init vs = load (fileCartridge b4 b5 b6 file) init vs := by
  rw [loadFile, parseCartridge_of_header hm hd, if_neg (not_not.mpr h0), cutCartridge, List.length_drop,
    if_neg (Nat.not_lt.mpr h)]
  rfl

/-- Admitted sizes and enough bytes: the sizes are the header's, the two memories are the file's bytes. -/
theorem loadFile_of_sized (h4 : b4 = 1 ∨ b4 = 2) (h5 : b5 = 0 ∨ b5 = 1)
    (h : bodyStart b6 + 16384 * b4.toNat + 8192 * b5.toNat ≤ file.length) :
    ∃ t, loadFile file init vs = .next t ∧ t.prgSize.bytes = 16384 * b4.toNat ∧ t.chrSize.bytes = 8192 * b5.toNat ∧
      (∀ k, k < t.prgSize.bytes → file[bodyStart b6 + k]? = some (t.byte .prg k)) ∧
      (∀ k, k < t.chrSize.bytes → file[bodyStart b6 + t.prgSize.bytes + k]? = some (t.byte .chr k)) := by
  have hbody : 16384 * b4.toNat + 8192 * b5.toNat ≤ file.length - bodyStart b6 := by omega
  obtain ⟨t, ht, _, hprg, hchr, hps, hcs, _⟩ :=
    (loadInstallsTheCartridge _ init vs).1 ((fileCartridge_sized_iff hbody).mpr ⟨h4, h5⟩)
  rw [fileCartridge_prg_length hbody] at hprg hps
  rw [fileCartridge_chr_length hbody] at hchr hcs
  refine ⟨t, (loadFile_eq_load hm hd h0 hbody).trans ht, hps, hcs, fun k hk => ?_, fun k hk => ?_⟩
  · rw [hps] at hk
    rw [← hprg k hk, fileCartridge_prg_getElem? hk]
  · rw [hcs] at hk
    rw [← hchr k hk, fileCartridge_chr_getElem? hk, hps]

/-- Other sizes are refused by `load`, too few bytes before it (log entry 9). -/
theorem loadFile_refused (h : ¬((b4 = 1 ∨ b4 = 2) ∧ (b5 = 0 ∨ b5 = 1) ∧
      bodyStart b6 + 16384 * b4.toNat + 8192 * b5.toNat ≤ file.length)) :
    ∃ r, loadFile file init vs = .refused r := by
  rcases Nat.lt_or_ge (file.length - bodyStart b6) (16384 * b4.toNat + 8192 * b5.toNat) with hshort | hbody
  · exact ⟨_, loadFile_of_truncated hm hd h0 hshort⟩
  · have unsized : ¬ (fileCartridge b4 b5 b6 file).sized := by
      rw [fileCartridge_sized_iff hbody]
      rintro ⟨h4, h5⟩
      have positive : 0 < b4.toNat := by rcases h4 with rfl | rfl <;> decide
      exact h ⟨h4, h5, by omega⟩
    exact ⟨_, (loadFile_eq_load hm hd h0 hbody).trans ((loadInstallsTheCartridge _ init vs).2 unsized)⟩

end

end

/-- Settles O60: one lemma for each check, the magic first, then the mapper, then the sizes and the length. -/
theorem cartridgeFileChecks : Obligations.CartridgeFileChecks := by
  refine fun file init vs => ⟨loadFile_of_wrong_magic, fun hm b4 b5 b6 b7 rest hd =>
    ⟨fun n hn hn0 => ?_, fun h7 h6 => ?_⟩⟩
  · obtain rfl := mapperNumber_eq_of_toNat hn
    exact loadFile_of_mapper hm hd hn0
  · have h0 : mapperNumber b6 b7 = Config.directMapper := mapperNumber_eq_of_toNat (by rw [h7, h6]; rfl)
    exact ⟨fun ⟨h4, h5, hlen⟩ => loadFile_of_sized hm hd h0 h4 h5 hlen, loadFile_refused hm hd h0⟩

end Sys2Proof.Machine
end

section
/-! Which accesses answer (20_memory.md sections 2, 3 and 5): for a video access, a register access and a bus access, the
exact condition on its address; and that the reset state is canonical and what `reset()` leaves as it is. -/

namespace Sys2Proof.Machine

/-- An access that faults does not answer. -/
theorem not_answers_of_error {α : Type} {r : Except Fault α} {f : Fault} (h : r = .error f) : ¬ ∃ x, r = .ok x := by
  rintro ⟨x, hx⟩
  rw [h] at hx
  cases hx

/-! ### Reads -/

section
variable {a : Word} {s : State}

theorem videoRead_answers_iff {va : Word} : (∃ b, videoRead va s = .ok b) ↔ VideoReadable va s := by
  refine ⟨fun h => ?_, ?_⟩
  · by_contra hva
    exact not_answers_of_error (videoRead_unmapped s hva) h
  · rintro (h | ⟨h1, h2⟩ | ⟨h1, h2⟩)
    · exact ⟨_, videoRead_chr s h⟩
    · exact ⟨_, videoRead_vram s h1 h2⟩
    · exact ⟨_, videoRead_pal s h1 h2⟩

/-- The readable registers are `status`, the OAM port and, by its address, the video port (R71, R82, D16). -/
theorem periphRead_answers_iff {i : Nat} :
    (∃ p, periphRead i s = .ok p) ↔ i = 2 ∨ i = 4 ∨ (i = 7 ∧ VideoReadable s.vaddr s) := by
  refine ⟨fun h => ?_, ?_⟩
  · by_contra! hi
    obtain ⟨h2, h4, hvideo⟩ := hi
    by_cases h7 : i = 7
    · subst h7
      exact not_answers_of_error (periphRead_seven_error (videoRead_unmapped s (hvideo rfl))) h
    · exact not_answers_of_error ((unlistedRegisterAccessFaults i 0 s).1 ⟨h2, h4, h7⟩) h
  · rintro (rfl | rfl | ⟨rfl, hvideo⟩)
    · exact ⟨_, rfl⟩
    · exact ⟨_, periphRead_four s⟩
    · obtain ⟨b, hb⟩ := videoRead_answers_iff.mpr hvideo
      exact ⟨_, periphRead_seven_ok hb⟩

theorem busRead_answers_iff : (∃ p, busRead a s = .ok p) ↔ Readable a s := by
  unfold Readable
  obtain ⟨h, -⟩ | ⟨h1, h2, -⟩ | ⟨h, -⟩ | ⟨h1, h2, -, -⟩ | ⟨h1, h2, -⟩ | ⟨h1, h2, -⟩ | ⟨h, -⟩ := regionOf_cases a
  · exact iff_of_true ⟨_, busRead_wram s h⟩ (by omega)
  · rw [busRead_periph s h1 h2, periphRead_answers_iff]
    refine ⟨fun h => .inr (.inl ⟨h1, h2, h⟩), ?_⟩
    rintro (h | ⟨-, -, h⟩ | h | h)
    case inr.inl => exact h
    all_goals omega
  · exact iff_of_true ⟨_, busRead_stub s (by omega) (by omega)⟩ (by omega)
  · exact iff_of_true ⟨_, busRead_stub s h1 h2⟩ (by omega)
  · exact iff_of_false (not_answers_of_error (busRead_unmapped s h1 h2)) (by omega)
  · exact iff_of_true ⟨_, busRead_cram s h1 h2⟩ (by omega)
  · exact iff_of_true ⟨_, busRead_rom s h⟩ (by omega)

end

/-! ### Writes -/

section
variable {a : Word} {v : Byte} {s : State}

theorem videoWritable_of_answers {va : Word} (h : ∃ t, videoWrite va v s = .ok t) : VideoWritable va := by
  by_contra hva
  by_cases hchr : va.toNat ≤ 0x1FFF
  · exact not_answers_of_error (videoWrite_chr v s hchr) h
  · exact not_answers_of_error (videoWrite_unmapped v s (by omega) hva) h

/-- Of the eight registers only `status` takes no write; the video port takes one by its address (R75, R83, D16). -/
theorem periphWrite_answers_iff {i : Nat} (hi : i < 8) :
    (∃ t, periphWrite i v s = .ok t) ↔ i ≠ 2 ∧ (i = 7 → VideoWritable s.vaddr) := by
  refine ⟨fun h => ⟨?_, ?_⟩, fun ⟨h2, h7⟩ => periphWrite_answers hi h2 h7⟩
  · rintro rfl
    exact not_answers_of_error (unlistedRegisterAccessFaults 2 v s).2.1 h
  · rintro rfl
    exact videoWritable_of_answers h

/-- A bulk copy answers only for a page that can be read whole (R85, D12). -/
theorem copyable_of_answers (ha : a.toNat = 0x4014) (h : ∃ t, busWrite a v s = .ok t) : Copyable v := by
  obtain rfl : a = 0x4014 := BitVec.eq_of_toNat_eq ha
  obtain ⟨-, hwindow, hstub, hunmapped⟩ := bulkCopyFillsOam v s
  by_contra hv
  simp only [Copyable, not_or, Nat.not_le] at hv
  obtain hv' | hv' | hv' : v.toNat ≤ 0x3F ∨ v.toNat = 0x40 ∨ 0x41 ≤ v.toNat := by omega
  · exact not_answers_of_error (hwindow (by omega) hv') h
  · exact not_answers_of_error (hstub hv') h
  · exact not_answers_of_error (hunmapped hv' (by omega)) h

/-- A write that answers is at a writable address. -/
theorem writable_of_answers (h : ∃ t, busWrite a v s = .ok t) : Writable a v s := by
  unfold Writable
  obtain ⟨ha, -⟩ | ⟨h1, h2, -⟩ | ⟨ha, -⟩ | ⟨h1, h2, hne, -⟩ | ⟨h1, h2, -⟩ | ⟨h1, h2, -⟩ | ⟨ha, -⟩ := regionOf_cases a
  · exact .inl ha
  · rw [busWrite_periph v s h1 h2, periphWrite_answers_iff (Nat.mod_lt _ (by omega))] at h
    exact .inr (.inl ⟨h1, h2, h⟩)
  · exact .inr (.inr (.inl ⟨by omega, by omega, fun _ => copyable_of_answers ha h⟩))
  · exact .inr (.inr (.inl ⟨h1, h2, fun ha => absurd ha hne⟩))
  · exact absurd h (not_answers_of_error (busWrite_unmapped v s h1 h2))
  · exact .inr (.inr (.inr ⟨h1, h2⟩))
  · exact absurd h (not_answers_of_error (busWrite_rom v s ha))

end

/-! ### The obligations -/

/-- Settles O19: region by region, an access answers or faults as the store, register or page behind it does. -/
theorem accessesAnswerExactlyWhereMapped : Obligations.AccessesAnswerExactlyWhereMapped :=
  fun _ _ _ => ⟨Prod.exists.symm.trans busRead_answers_iff, writable_of_answers, busWrite_answers⟩

/-- Program memory of the reset state is all zero, the word behind the reset vector with it (log entry 3). -/
theorem resetTarget_reset : resetTarget State.reset = 0 := rfl

/-- Settles O5: every store lists nothing, and the seeding of the registers finds them as it leaves them. -/
theorem resetStateIsCanonical : Obligations.ResetStateIsCanonical := by
  refine ⟨(State.wf_iff _).mpr ⟨rfl, rfl, rfl, rfl, rfl, rfl, rfl, rfl⟩, ?_⟩
  rw [hostReset_eq, resetTarget_reset]
  rfl

end Sys2Proof.Machine
end
